-- ==== Sys2Proof/Word.lean ====
section
/-! DEFINITION. The word types of the block's operands and of the bytes of a trace. -/

namespace Sys2Proof

/-- One byte of a trace word (the model's framing, notes/assumptions/3.md). -/
abbrev Byte := BitVec 8

/-- An unsigned 32-bit operand: a width in microseconds, a clock in Hertz, a frequency in milli-Hertz (R85). -/
abbrev Word32 := BitVec 32

/-- An unsigned 16-bit engine speed in revolutions per minute (R21, R22, R85). -/
abbrev Rpm := BitVec 16

end Sys2Proof
end

