-- ==== Sys2Proof/Config.lean ====
section
/-! DEFINITION. What an implementation of the block fixes: the constants of R6, the open parameters of R7 and the
spec's reference configurations. -/

namespace Sys2Proof

/-! `CAP` = 8, the capacity of the command stack (R6), is the length of the array `stk` in State. -/

/-- `GUARD`, the debounce guard interval in ticks (R6). -/
def guardTicks : Nat := 15

/-- `RPM_MIN` (R6). -/
def rpmMin : Nat := 2500

/-- `RPM_MAX` (R6). -/
def rpmMax : Nat := 9000

/-- `RPM_DEFAULT` (R6). -/
def rpmDefault : Nat := 6900

/-- `STEP_FAST` (R6). -/
def stepFast : Nat := 10

/-- `STEP_SLOW` (R6). -/
def stepSlow : Nat := 1

/-- `PULSE_WIDTH_US` (R6). -/
def pulseWidthUs : Word32 := 2000#32

/-- `SCALE_NUM` (R6). -/
def scaleNum : Nat := 33333

/-- `SCALE_DEN` (R6). -/
def scaleDen : Nat := 1000

/-- `SLOTS_PER_CHANNEL` (R6). -/
def slotsPerChannel : Nat := 2

/-- The parameters the source leaves open (R7). State carries one, which no step changes, so that a claim about every
state is a claim about every configuration (notes/assumptions/1.md). -/
structure Config where
  /-- `SRC_CLOCK_HZ`. -/
  srcClockHz : Word32
  /-- `PRESCALE`, 0..255. -/
  prescale : BitVec 8
  /-- `COUNTER_W`, the width of COUNT, MATCH and MATCHREL. -/
  counterW : Nat
  /-- `TICK_W`, the width of now and gate_last. -/
  tickW : Nat
  /-- `N_EVENT_SLOTS`. -/
  nEventSlots : Nat
  /-- `SLOTS_USED_RESET`. -/
  slotsUsedReset : Nat
  /-- `FAST_RESET`. -/
  fastReset : Bool
  /-- `APPLIED_RPM_RESET`. -/
  appliedRpmReset : Rpm
  /-- `SETUP_FREQ_MHZ`. -/
  setupFreqMhz : Word32
  /-- `ENC_INC_LEVEL`. -/
  encIncLevel : Bool
deriving DecidableEq, Repr

/-- The ranges R7 gives the parameters (those that the fields' types do not already give). -/
abbrev Config.InRange (c : Config) : Prop :=
  c.srcClockHz ≠ 0#32 ∧ 1 ≤ c.counterW ∧ 5 ≤ c.tickW ∧ c.slotsUsedReset ≤ c.nEventSlots

/-- Reference configuration A (R7). -/
def Config.referenceA : Config where
  srcClockHz := 48000000#32
  prescale := 0#8
  counterW := 32
  tickW := 32
  nEventSlots := 16
  slotsUsedReset := 0
  fastReset := false
  appliedRpmReset := 6900#16
  setupFreqMhz := 229997#32
  encIncLevel := true

/-- Reference configuration B (R7): A with another clock and prescale divisor. -/
def Config.referenceB : Config :=
  { Config.referenceA with srcClockHz := 72000000#32, prescale := 5#8 }

/-- Reference configuration T, "tiny" (R7). -/
def Config.referenceT : Config :=
  { Config.referenceA with srcClockHz := 1000#32, counterW := 8, setupFreqMhz := 100000#32 }

end Sys2Proof
end

