-- ==== Sys2Proof/Syntax.lean ====
section
/-! DEFINITION. Commands, switch directions, the three formats and the ONE type of instructions: one constructor per
row of the opcode table (R90). -/

namespace Sys2Proof

/-- A command, a value on the command stack (R81). -/
inductive Command where
  | none
  | increase
  | decrease
  | toggleOutput
  | applyFrequency
  | applyPulseWidth
deriving DecidableEq, Repr

/-- The direction of a switch edge (R82, R149). -/
inductive SwDir where
  | toOff
  | toOn
deriving DecidableEq, Repr

/-- The formats of an instruction (R81, R82, R83). -/
inductive Format where
  | evt
  | cmd
  | op
deriving DecidableEq, Repr

/-- A result classification (R84). -/
inductive Res where
  | ok
  | invalidArgument
  | resourceExhausted
  | commandDropped
deriving DecidableEq, Repr

/-- The instructions of the block: six commands, seven events, eight operations, in the table's order (R90). -/
inductive Instr where
  /-- Command `None` (R172). -/
  | cmdNone
  /-- Command `Increase` (R173). -/
  | increase
  /-- Command `Decrease` (R174). -/
  | decrease
  /-- Command `ToggleOutput` (R175). -/
  | toggleOutput
  /-- Command `ApplyFrequency` (R176). -/
  | applyFrequency
  /-- Command `ApplyPulseWidth` (R177). -/
  | applyPulseWidth
  /-- Event `TICK` (R146). -/
  | tick
  /-- Event `ENC_B(a)`: `a` is the sampled level of phase A (R147). -/
  | encB (a : Bool)
  /-- Event `BTN` (R148). -/
  | btn
  /-- Event `SW(d)` (R149). -/
  | sw (d : SwDir)
  /-- Event `TMR` (R112). -/
  | tmr
  /-- Event `ENC_A` (R150). -/
  | encA
  /-- Event `MAIN` (R170). -/
  | main
  /-- Operation `setup(pulse_width_us, src_clock_hz, freq_mhz)` (R106). -/
  | setup (widthUs srcHz freqMhz : Word32)
  /-- Operation `update_frequency(src_clock_hz, freq_mhz, period_slot)` (R108). -/
  | updateFrequency (srcHz freqMhz : Word32) (slot : Nat)
  /-- Operation `update_pulse_width(src_clock_hz, pulse_width_us, period_slot)` (R110). -/
  | updatePulseWidth (srcHz widthUs : Word32) (slot : Nat)
  /-- Operation `enable(on)` (R111). -/
  | enable (on : Bool)
  /-- Operation `push(cmd)` (R140). -/
  | push (cmd : Command)
  /-- Operation `pop()` (R141). -/
  | pop
  /-- Operation `rpm_to_mhz(rpm)` (R178). -/
  | rpmToMhz (rpm : Rpm)
  /-- Operation `gate_accept()` (R143). -/
  | gateAccept
deriving DecidableEq, Repr

/-- The format of an instruction (R90). -/
def Instr.format : Instr → Format
  | .cmdNone => .cmd
  | .increase => .cmd
  | .decrease => .cmd
  | .toggleOutput => .cmd
  | .applyFrequency => .cmd
  | .applyPulseWidth => .cmd
  | .tick => .evt
  | .encB _ => .evt
  | .btn => .evt
  | .sw _ => .evt
  | .tmr => .evt
  | .encA => .evt
  | .main => .evt
  | .setup _ _ _ => .op
  | .updateFrequency _ _ _ => .op
  | .updatePulseWidth _ _ _ => .op
  | .enable _ => .op
  | .push _ => .op
  | .pop => .op
  | .rpmToMhz _ => .op
  | .gateAccept => .op

/-- The instruction that services a command (R81, "serviced by"). -/
def Command.instr : Command → Instr
  | .none => .cmdNone
  | .increase => .increase
  | .decrease => .decrease
  | .toggleOutput => .toggleOutput
  | .applyFrequency => .applyFrequency
  | .applyPulseWidth => .applyPulseWidth

end Sys2Proof
end

