-- ==== Sys2Proof/WellFormed.lean ====
section
/-! DEFINITION. Which instructions are well formed: those whose operands the model's encoding can hold. Every other
operand is in range by its type (R85). -/

namespace Sys2Proof

/-- A slot number has 32 bits in the model's encoding (notes/assumptions/3.md). The spec bounds it by N_EVENT_SLOTS,
which is a parameter (R85); a well-formed handle that `setup` did not return is refused by the meaning (R108, R110). -/
def slotFits (slot : Nat) : Bool := decide (slot < 2 ^ 32)

/-- The operands of `i` fit their fields. -/
def Instr.wf : Instr → Bool
  | .cmdNone => true
  | .increase => true
  | .decrease => true
  | .toggleOutput => true
  | .applyFrequency => true
  | .applyPulseWidth => true
  | .tick => true
  | .encB _ => true
  | .btn => true
  | .sw _ => true
  | .tmr => true
  | .encA => true
  | .main => true
  | .setup _ _ _ => true
  | .updateFrequency _ _ slot => slotFits slot
  | .updatePulseWidth _ _ slot => slotFits slot
  | .enable _ => true
  | .push _ => true
  | .pop => true
  | .rpmToMhz _ => true
  | .gateAccept => true

end Sys2Proof
end

