-- ==== Sys2Proof/Decode.lean ====
section
/-! DEFINITION. The decoder and the encoder. The codes are those of R81 (commands), R82 (events), R83 (operations) and
R84 (results); the framing of a code and its operands as bytes is the model's own (notes/assumptions/3.md), because the
three formats share their codes and the spec gives neither a tag nor a byte order. -/

namespace Sys2Proof

/-- Why a trace word is rejected (R86). -/
inductive DecodeError where
  /-- No byte at all. -/
  | empty
  /-- The format nibble names none of the three formats. -/
  | unknownFormat (tag : Nat)
  /-- A reserved command code, 6 or 7 (R86). -/
  | reservedCommand (code : Nat)
  /-- A reserved event code: kind 7, or an argument bit on a kind without argument (R86). -/
  | reservedEvent (code : Nat)
  /-- A bit above a 3-bit code or above an operand is not 0. -/
  | strayBit
  /-- An operand is missing. -/
  | truncated
  /-- Bytes are left over after the instruction. -/
  | trailing
deriving DecidableEq, Repr

/-! ## The code tables -/

/-- The 3-bit code of a command (R81). -/
def Command.code : Command → BitVec 3
  | .none => 0b000#3
  | .increase => 0b001#3
  | .decrease => 0b010#3
  | .toggleOutput => 0b011#3
  | .applyFrequency => 0b100#3
  | .applyPulseWidth => 0b101#3

/-- The decoder of a command (R81, R86). -/
def decodeCmd (c : BitVec 3) : Except DecodeError Command :=
  match c.toNat with
  | 0 => .ok .none
  | 1 => .ok .increase
  | 2 => .ok .decrease
  | 3 => .ok .toggleOutput
  | 4 => .ok .applyFrequency
  | 5 => .ok .applyPulseWidth
  | n => .error (.reservedCommand n)

/-- The argument bit of a switch direction (R82). -/
def SwDir.bit : SwDir → BitVec 1
  | .toOff => 0#1
  | .toOn => 1#1

/-- The decoder of an event, `kkka` (R82, R86). -/
def decodeEvt (e : BitVec 4) : Except DecodeError Instr :=
  match e.toNat with
  | 0b0000 => .ok .tick
  | 0b0010 => .ok (.encB false)
  | 0b0011 => .ok (.encB true)
  | 0b0100 => .ok .btn
  | 0b0110 => .ok (.sw .toOff)
  | 0b0111 => .ok (.sw .toOn)
  | 0b1000 => .ok .tmr
  | 0b1010 => .ok .encA
  | 0b1100 => .ok .main
  | n => .error (.reservedEvent n)

/-- The 2-bit code of a result (R84). -/
def Res.code : Res → BitVec 2
  | .ok => 0b00#2
  | .invalidArgument => 0b01#2
  | .resourceExhausted => 0b10#2
  | .commandDropped => 0b11#2

/-- The result a code stands for (R84): every 2-bit code is one. -/
def Res.ofCode (c : BitVec 2) : Res :=
  match c.toNat with
  | 0 => .ok
  | 1 => .invalidArgument
  | 2 => .resourceExhausted
  | _ => .commandDropped

/-! ## Framing: bytes of an instruction and back -/

/-- The nibble that names a format in the model's framing. -/
def Format.tag : Format → BitVec 4
  | .evt => 0#4
  | .cmd => 1#4
  | .op => 2#4

/-- The first byte of an instruction: the format's nibble above its code. -/
def frame (f : Format) (code : BitVec 4) : Byte := f.tag ++ code

/-- A 32-bit operand, least significant byte first. -/
def bytes32 (v : Word32) : List Byte :=
  [v.extractLsb' 0 8, v.extractLsb' 8 8, v.extractLsb' 16 8, v.extractLsb' 24 8]

/-- A 16-bit operand, least significant byte first. -/
def bytes16 (v : Rpm) : List Byte := [v.extractLsb' 0 8, v.extractLsb' 8 8]

/-- A boolean operand: 0 or 1 in a byte. -/
def byteOfBool (b : Bool) : Byte := if b then 1#8 else 0#8

/-- The bytes of an instruction. -/
def encode : Instr → List Byte
  | .cmdNone => [frame .cmd 0b0000#4]
  | .increase => [frame .cmd 0b0001#4]
  | .decrease => [frame .cmd 0b0010#4]
  | .toggleOutput => [frame .cmd 0b0011#4]
  | .applyFrequency => [frame .cmd 0b0100#4]
  | .applyPulseWidth => [frame .cmd 0b0101#4]
  | .tick => [frame .evt 0b0000#4]
  | .encB a => [frame .evt (0b001#3 ++ BitVec.ofBool a)]
  | .btn => [frame .evt 0b0100#4]
  | .sw d => [frame .evt (0b011#3 ++ d.bit)]
  | .tmr => [frame .evt 0b1000#4]
  | .encA => [frame .evt 0b1010#4]
  | .main => [frame .evt 0b1100#4]
  | .setup widthUs srcHz freqMhz =>
    frame .op 0b0000#4 :: (bytes32 widthUs ++ bytes32 srcHz ++ bytes32 freqMhz)
  | .updateFrequency srcHz freqMhz slot =>
    frame .op 0b0001#4 :: (bytes32 srcHz ++ bytes32 freqMhz ++ bytes32 (BitVec.ofNat 32 slot))
  | .updatePulseWidth srcHz widthUs slot =>
    frame .op 0b0010#4 :: (bytes32 srcHz ++ bytes32 widthUs ++ bytes32 (BitVec.ofNat 32 slot))
  | .enable on => [frame .op 0b0011#4, byteOfBool on]
  | .push cmd => [frame .op 0b0100#4, cmd.code.setWidth 8]
  | .pop => [frame .op 0b0101#4]
  | .rpmToMhz rpm => frame .op 0b0110#4 :: bytes16 rpm
  | .gateAccept => [frame .op 0b0111#4]

/-- Read a 32-bit operand. -/
def take32 : List Byte → Except DecodeError (Word32 × List Byte)
  | b0 :: b1 :: b2 :: b3 :: rest => .ok (b3 ++ b2 ++ b1 ++ b0, rest)
  | _ => .error .truncated

/-- Read a 16-bit operand. -/
def take16 : List Byte → Except DecodeError (Rpm × List Byte)
  | b0 :: b1 :: rest => .ok (b1 ++ b0, rest)
  | _ => .error .truncated

/-- Read a boolean operand. -/
def takeBool : List Byte → Except DecodeError (Bool × List Byte)
  | b :: rest => if b = 0#8 then .ok (false, rest) else if b = 1#8 then .ok (true, rest) else .error .strayBit
  | [] => .error .truncated

/-- A 3-bit code held in a wider field, whose upper bits must be 0. -/
def code3 (w : Nat) (v : BitVec w) : Except DecodeError (BitVec 3) :=
  if v.toNat < 8 then .ok (BitVec.ofNat 3 v.toNat) else .error .strayBit

/-- Read a command operand. -/
def takeCmd : List Byte → Except DecodeError (Command × List Byte)
  | b :: rest => do
    let c ← code3 8 b
    let cmd ← decodeCmd c
    .ok (cmd, rest)
  | [] => .error .truncated

/-- The operation an id names, with its operands read from the bytes that follow (R83, R85). -/
def decodeOp (o : BitVec 3) (rest : List Byte) : Except DecodeError (Instr × List Byte) :=
  match o.toNat with
  | 0 => do
    let (widthUs, r1) ← take32 rest
    let (srcHz, r2) ← take32 r1
    let (freqMhz, r3) ← take32 r2
    .ok (.setup widthUs srcHz freqMhz, r3)
  | 1 => do
    let (srcHz, r1) ← take32 rest
    let (freqMhz, r2) ← take32 r1
    let (slot, r3) ← take32 r2
    .ok (.updateFrequency srcHz freqMhz slot.toNat, r3)
  | 2 => do
    let (srcHz, r1) ← take32 rest
    let (widthUs, r2) ← take32 r1
    let (slot, r3) ← take32 r2
    .ok (.updatePulseWidth srcHz widthUs slot.toNat, r3)
  | 3 => do
    let (on, r1) ← takeBool rest
    .ok (.enable on, r1)
  | 4 => do
    let (cmd, r1) ← takeCmd rest
    .ok (.push cmd, r1)
  | 5 => .ok (.pop, rest)
  | 6 => do
    let (rpm, r1) ← take16 rest
    .ok (.rpmToMhz rpm, r1)
  | _ => .ok (.gateAccept, rest)

/-- The instruction at the head of a list of bytes, and the bytes after it. -/
def decode : List Byte → Except DecodeError (Instr × List Byte)
  | [] => .error .empty
  | b :: rest =>
    let code : BitVec 4 := b.extractLsb' 0 4
    match (b.extractLsb' 4 4).toNat with
    | 0 => do
      let i ← decodeEvt code
      .ok (i, rest)
    | 1 => do
      let c ← code3 4 code
      let cmd ← decodeCmd c
      .ok (cmd.instr, rest)
    | 2 => do
      let o ← code3 4 code
      decodeOp o rest
    | n => .error (.unknownFormat n)

/-- The one instruction that a whole trace word spells (R88: one event, one step). -/
def decodeWord (ws : List Byte) : Except DecodeError Instr :=
  match decode ws with
  | .ok (i, []) => .ok i
  | .ok (_, _ :: _) => .error .trailing
  | .error e => .error e

/-! ## The host's numbering of a table row's bits -/

/-- The length in bytes of the longest instruction. -/
def longestInstr : Nat := 13

/-- The bytes of a table word: its bits in whole bytes, the first byte least significant, then zeros up to the longest
instruction. -/
def tableBytes (nbits w : Nat) : List Byte :=
  (List.range longestInstr).map fun k => BitVec.ofNat 8 ((w % 2 ^ nbits) >>> (8 * k))

/-- The instruction the decoder reads from a table word. A bare code (format nibble 0) is an event, the format a trace
is written in (R88); commands and operations need the model's format nibble (notes/assumptions/3.md). -/
def decodeTableWord (nbits w : Nat) : Option Instr :=
  match decode (tableBytes nbits w) with
  | .ok (i, _) => some i
  | .error _ => none

/-- The bytes of a table word that its instruction takes; all of them where the decoder rejects it. -/
def tableInstrBytes (nbits w : Nat) : List Byte :=
  match decode (tableBytes nbits w) with
  | .ok (_, rest) => (tableBytes nbits w).take (longestInstr - rest.length)
  | .error _ => tableBytes nbits w

end Sys2Proof
end

