-- ==== Sys2Proof/Machine/State.lean ====
section
/-! DEFINITION. The state of the block: every item of R20, the configuration, the steps still to come, and what has
left the block; the reasons a step can stop; the state after reset. -/

namespace Sys2Proof.Machine

/-- The position of the main dispatch loop, `ml`: 20 phases (R28). -/
inductive Phase where
  | fetch
  | i1 | i2 | i3
  | d1 | d2 | d3
  | t1 | t2 | t3 | t4 | t5
  | f1 | f2 | f3 | f4 | f5 | f6
  | w1 | w2
deriving DecidableEq, Repr

/-- The error a Pulse Generator operation returns (R84, R201, R203). -/
inductive Err where
  | invalidArgument
  | resourceExhausted
deriving DecidableEq, Repr

/-- The run state `sys` (R30). `unset` is the time between reset and boot (R230: "not yet set"). -/
inductive Sys where
  | unset
  | run
  | halted (e : Err)
deriving DecidableEq, Repr

/-- The two logical states of the output line (R38). -/
inductive Line where
  | active
  | inactive
deriving DecidableEq, Repr

/-- The match registers of one slot: `MATCH[k]` and `MATCHREL[k]` (R35). -/
structure MatchPair where
  live : Nat
  reload : Nat
deriving DecidableEq, Repr

/-- The pulse-channel record `ch` (R37). -/
structure Channel where
  armed : Bool
  pslot : Nat
  wslot : Nat
deriving DecidableEq, Repr

/-- What a refresh request shows (R216). -/
inductive RefreshKind where
  | commanded
  | output
  | applied
deriving DecidableEq, Repr

/-- The snapshot a refresh request carries (R216). -/
structure Snapshot where
  cmdRpm : Rpm
  appRpm : Rpm
  matched : Bool
  outEn : Bool
deriving DecidableEq, Repr

/-- What an operation returns to its caller (R83, R84). -/
inductive Returned where
  /-- `Ok` without a value. -/
  | ok
  /-- `Ok(period_slot)` (R106). -/
  | slot (k : Nat)
  /-- `Err(e)`. -/
  | err (e : Err)
  /-- `freq_mhz` (R178). -/
  | freqMhz (f : Word32)
  /-- 1 (accepted) or 0 (rejected) (R143). -/
  | accepted (b : Bool)
deriving DecidableEq, Repr

/-- What leaves the block in a step. No rule reads it (R202, R216; notes/assumptions/5.md). -/
inductive Obs where
  /-- A refresh request to the display collaborator (R180, R216). -/
  | refresh (k : RefreshKind) (snap : Snapshot)
  /-- The result of an operation called from outside the main loop (R83). -/
  | returned (r : Returned)
  /-- A push on a full stack, `CommandDropped` (R202). -/
  | dropped (c : Command)
deriving DecidableEq, Repr

/-- A step the environment has in store (notes/assumptions/2.md). -/
inductive Stimulus where
  /-- The reset line is asserted (R230). -/
  | rst
  /-- The bytes of a trace word: the event, or the operation called, in that step (R88). -/
  | word (bytes : List Byte)
deriving DecidableEq, Repr

/-- The faults. Each is safe: the run ends where the spec ends it. -/
inductive Fault where
  /-- Raised by `execTick` at the counter's maximum (R146, D10). Safe: no wrapped value is ever produced. -/
  | tickWrap
  /-- Raised by `step`, and by the meanings of MAIN and of the commands, in `HALTED(e)` (R30, R203). Safe: no agent has
  a step there. -/
  | halted (e : Err)
  /-- Raised by the timer and the Pulse Generator for a slot number at which the timer has no register (R35). Safe: no
  state that meets the invariant gets there (notes/assumptions/7.md). -/
  | noSuchSlot (k : Nat)
deriving DecidableEq, Repr

/-- The refusals: situations to which the spec gives no meaning (R205). Each is safe. -/
inductive Refusal where
  /-- An instruction that has no meaning yet, raised by `exec` alone. Safe. -/
  | notModelled (mnemonic : String)
  /-- Raised by `step` for a trace word that spells no instruction (R86). Safe. -/
  | badWord (e : DecodeError)
  /-- Raised by `setup` with `HALT = 0` or `ch.armed = 1` (R107). Safe. -/
  | setupOutsidePrecondition
  /-- Raised by the update operations with `ch.armed = 0` or a handle other than `ch.pslot` (R108, R110). Safe. -/
  | foreignHandle (k : Nat)
  /-- Raised by the meanings of MAIN and of the commands before boot, where no MAIN step is enabled (R170). Safe. -/
  | beforeBoot
  /-- Raised by the meaning of a command that is not the one in service (R171). Safe. -/
  | notInService (c : Command)
deriving DecidableEq, Repr

/-- The state. The first group of fields is the record of R20, in its order; the last three are the model's own. -/
@[ext]
structure State where
  /-- `cmd_rpm`, the commanded RPM (R21). -/
  cmdRpm : Rpm
  /-- `app_rpm`, the applied RPM (R22). -/
  appRpm : Rpm
  /-- `now`, the tick counter, TICK_W bits (R23). -/
  now : Nat
  /-- `gate_last`, the time of the last accepted edge, TICK_W bits (R24). -/
  gateLast : Nat
  /-- `fast`, the fast-mode flag (R25). -/
  fast : Bool
  /-- `out_en`, the output-enabled flag (R26). -/
  outEn : Bool
  /-- `ml`, the position of the main loop (R28). -/
  ml : Phase
  /-- `sys`, the run state (R30). -/
  sys : Sys
  /-- `stk[0..7]`, valid and stale entries alike (R31). -/
  stk : Vector Command 8
  /-- `sz`, the number of valid entries, 0..8 (R31). -/
  sz : Fin 9
  /-- `COUNT`, COUNTER_W bits (R33). -/
  count : Nat
  /-- `HALT`, the counter-stopped flag (R34). -/
  halt : Bool
  /-- `MATCH[k]` and `MATCHREL[k]` for k = 0 .. N_EVENT_SLOTS-1, COUNTER_W bits each (R35). -/
  slots : List MatchPair
  /-- `slots_used` (R36). -/
  slotsUsed : Nat
  /-- `ch`, the pulse channel (R37). -/
  ch : Channel
  /-- `OUT`, the output line (R38). -/
  out : Line
  /-- The configuration (R7), which no step changes (notes/assumptions/1.md). -/
  cfg : Config
  /-- The steps still to come, the next one first (notes/assumptions/2.md). -/
  trace : List Stimulus
  /-- What has left the block, the newest first (notes/assumptions/5.md). -/
  history : List Obs
deriving DecidableEq, Repr

/-- The reset state of a configuration (R20, R44, R230). `ch.pslot` and `ch.wslot` are unspecified there; the model
names 0 (notes/assumptions/12.md). -/
def State.resetOf (c : Config) : State where
  cmdRpm := BitVec.ofNat 16 rpmDefault
  appRpm := c.appliedRpmReset
  now := 0
  gateLast := 0
  fast := c.fastReset
  outEn := false
  ml := .fetch
  sys := .unset
  stk := Vector.replicate 8 .none
  sz := 0
  count := 0
  halt := true
  slots := List.replicate c.nEventSlots ⟨0, 0⟩
  slotsUsed := c.slotsUsedReset
  ch := ⟨false, 0, 0⟩
  out := .inactive
  cfg := c
  trace := []
  history := []

/-- The machine right after reset, in reference configuration A (notes/assumptions/1.md). -/
def State.reset : State := State.resetOf Config.referenceA

end Sys2Proof.Machine
end

