-- ==== Sys2Proof/Machine/Operands.lean ====
section
/-! DEFINITION. The arithmetic on operands: the clamp of R9 and the three unit conversions (R101 to R105, R178), exact
on naturals. -/

namespace Sys2Proof.Machine

/-- `clamp(v, lo, hi)` (R9). -/
def clamp (v lo hi : Nat) : Nat := max lo (min v hi)

/-- The clamp of an engine speed to [2500, 9000] (R173, R176, R178). -/
def clampRpm (v : Nat) : Rpm := BitVec.ofNat 16 (clamp v rpmMin rpmMax)

/-- `sct_clock`, the effective clock rate (R102). -/
def sctClock (c : Config) (srcHz : Word32) : Nat := srcHz.toNat / (c.prescale.toNat + 1)

/-- `period_ticks_of`; `none` is the `Err` of lines 1, 4 and 6 (R104). -/
def periodTicksOf (c : Config) (srcHz freqMhz : Word32) : Option Nat :=
  if freqMhz.toNat = 0 then none
  else
    let q := sctClock c srcHz * 1000 / freqMhz.toNat
    if q = 0 then none
    else if 2 ^ c.counterW ≤ q - 1 then none
    else some (q - 1)

/-- `pulse_ticks_of`; `none` is the `Err` of line 3 (R105). -/
def pulseTicksOf (c : Config) (srcHz widthUs : Word32) : Option Nat :=
  let w := widthUs.toNat * sctClock c srcHz / 1000000
  if 2 ^ c.counterW ≤ w then none else some w

/-- `rpm_to_mhz` (R178). -/
def rpmToMhz (rpm : Rpm) : Word32 :=
  BitVec.ofNat 32 (clamp rpm.toNat rpmMin rpmMax * scaleNum / scaleDen)

end Sys2Proof.Machine
end

