-- ==== Sys2Proof/Machine/Flags.lean ====
section
/-! DEFINITION. The derived signals (R20, R25, R27, R29) and the outputs (R42). The block has no condition codes (R28):
these functions of the state are all the flags it computes. -/

namespace Sys2Proof.Machine

/-- `current`: the top of the stack, `None` when it is empty (R29). -/
def State.current (s : State) : Command :=
  if h : s.sz.val = 0 then .none else s.stk[s.sz.val - 1]'(by omega)

/-- `match`, the match indicator (R27). -/
def State.matched (s : State) : Bool := decide (s.cmdRpm = s.appRpm)

/-- `step`, the active step size (R25, R179). -/
def State.stepSize (s : State) : Nat := if s.fast then stepFast else stepSlow

/-- Whether the debounce gate is open: `now > gate_last + GUARD`, on unbounded naturals (R143). -/
def State.gateOpen (s : State) : Bool := decide (s.gateLast + guardTicks < s.now)

/-- The electrical level of the output line: active is 0 (R38). -/
def Line.level : Line → BitVec 1
  | .active => 0#1
  | .inactive => 1#1

/-- The snapshot a refresh request carries (R216). -/
def State.snapshot (s : State) : Snapshot := ⟨s.cmdRpm, s.appRpm, s.matched, s.outEn⟩

/-- The continuous outputs of the block (R42, R217). -/
structure Outputs where
  pulseOut : BitVec 1
  stCmdRpm : Rpm
  stAppRpm : Rpm
  stMatch : Bool
  stOutEn : Bool
deriving DecidableEq, Repr

/-- The values of the continuous outputs in a state (R42, R217). -/
def State.outputs (s : State) : Outputs := ⟨s.out.level, s.cmdRpm, s.appRpm, s.matched, s.outEn⟩

/-- The result classification of an error (R84). -/
def Err.res : Err → Res
  | .invalidArgument => .invalidArgument
  | .resourceExhausted => .resourceExhausted

/-- The result classification of what left the block, where it has one (R84, R202). -/
def Obs.res : Obs → Option Res
  | .refresh _ _ => none
  | .returned (.err e) => some e.res
  | .returned .ok => some .ok
  | .returned (.slot _) => some .ok
  | .returned (.freqMhz _) => none
  | .returned (.accepted _) => none
  | .dropped _ => some .commandDropped

/-- The command in whose service a phase falls; none for `FETCH` (R28). -/
def Phase.command : Phase → Option Command
  | .fetch => none
  | .i1 | .i2 | .i3 => some .increase
  | .d1 | .d2 | .d3 => some .decrease
  | .t1 | .t2 | .t3 | .t4 | .t5 => some .toggleOutput
  | .f1 | .f2 | .f3 | .f4 | .f5 | .f6 => some .applyFrequency
  | .w1 | .w2 => some .applyPulseWidth

/-- The command the next MAIN step serves: at `FETCH` the current one, elsewhere the one `ml` carries (R28, R171). -/
def State.inService (s : State) : Command :=
  match s.ml.command with
  | some c => c
  | none => s.current

/-- The first phase after `FETCH` (R81, R171). -/
def firstPhase : Command → Phase
  | .none => .fetch
  | .increase => .i1
  | .decrease => .d1
  | .toggleOutput => .t1
  | .applyFrequency => .f1
  | .applyPulseWidth => .w1

end Sys2Proof.Machine
end

