-- ==== Sys2Proof/Machine/Ops.lean ====
section
/-! DEFINITION. The named operations over the state: the stack, the debounce gate, the match registers and the
stop / write / restart bracket, the Pulse Generator's operations as their callers see them, reset, boot, and the choice
of the next step.

There is no exception entry and no return from one here: the block saves nothing and changes no mode when an interrupt
is taken, and its errors are results (R200, R209, R210; notes/assumptions/14.md). -/

namespace Sys2Proof.Machine

/-- The outcome of a step. -/
abbrev Exec := Host.Outcome State Fault Refusal

/-- The outcome of an operation: the state after it and what it returns (R12). -/
abbrev Call := Host.Outcome (State × Returned) Fault Refusal

/-- Note in the history what leaves the block (R202, R216). -/
def record (o : Obs) (s : State) : State := { s with history := o :: s.history }

/-- Hand an operation's result to what its caller does next; a refusal or a fault of the operation is the step's. -/
def andThen (c : Call) (k : State → Returned → State) : Exec :=
  match c with
  | .next (t, r) => .next (k t r)
  | .fault f => .fault f
  | .refused r => .refused r

/-- A call from outside the main loop: its result leaves the block (R83). -/
def recordResult (c : Call) : Exec := andThen c fun t r => record (.returned r) t

/-! ## The command stack and the gate -/

/-- `push(cmd)`: dropped on a full stack (R140, R202). -/
def push (c : Command) (s : State) : State :=
  if h : s.sz.val < 8 then
    { s with stk := s.stk.set s.sz.val c h, sz := ⟨s.sz.val + 1, by omega⟩ }
  else record (.dropped c) s

/-- `pop()`: nothing on an empty stack; the entry keeps its bits (R141). -/
def pop (s : State) : State := { s with sz := ⟨s.sz.val - 1, by omega⟩ }

/-- `gate_accept()`: test and refresh in one (R143). -/
def gateAccept (s : State) : State × Bool :=
  if s.gateOpen then ({ s with gateLast := s.now }, true) else (s, false)

/-- The shape of an input handler: nothing unless `sys = RUN` and the gate accepts (R145, R147 to R149). -/
def onAcceptedEdge (s : State) (handler : State → State) : State :=
  if s.sys = .run then
    match gateAccept s with
    | (t, true) => handler t
    | (t, false) => t
  else s

/-! ## The timer's registers -/

/-- `MATCH[k]`, where the timer has a slot `k` (R35). -/
def State.matchOf (s : State) (k : Nat) : Option Nat := (s.slots[k]?).map MatchPair.live

/-- Whether the timer has a slot `k` (R35). -/
def State.hasSlot (s : State) (k : Nat) : Bool := decide (k < s.slots.length)

/-- Write the live and the shadow register of slot `k` together (R35, R65). -/
def writeMatch (k v : Nat) (s : State) : State := { s with slots := s.slots.set k ⟨v, v⟩ }

/-- Stop the counter. -/
def stopCounter (s : State) : State := { s with halt := true }

/-- Start or restart the counter, from the value it holds (R108, R111, D18). -/
def startCounter (s : State) : State := { s with halt := false }

/-- Force the output line inactive. -/
def forceInactive (s : State) : State := { s with out := .inactive }

/-- The stop / force-inactive / write / restart bracket around a match write (R69, R108 and R110 lines 4 to 7). -/
def bracketWrite (k v : Nat) (s : State) : State :=
  startCounter (writeMatch k v (forceInactive (stopCounter s)))

/-- The reload at the period-rollover event, every slot (R113). -/
def reload (s : State) : State := { s with slots := s.slots.map fun m => ⟨m.reload, m.reload⟩ }

/-- The counter's step when no rollover resets it: it wraps (R112, D19). -/
def advanceCount (s : State) : State := { s with count := (s.count + 1) % 2 ^ s.cfg.counterW }

/-- One tick of a running timer (R112). -/
def timerTick (s : State) : Exec :=
  if s.ch.armed then
    match s.matchOf s.ch.pslot with
    | none => .fault (.noSuchSlot s.ch.pslot)
    | some period =>
      if s.count = period then .next (reload { s with out := .active, count := 0 })
      else
        match s.matchOf s.ch.wslot with
        | none => .fault (.noSuchSlot s.ch.wslot)
        | some width =>
          if s.count = width then .next (advanceCount (forceInactive s)) else .next (advanceCount s)
  else .next (advanceCount s)

/-! ## The Pulse Generator's operations -/

/-- `setup(pulse_width_us, src_clock_hz, freq_mhz)` (R106); refused outside its precondition (R107). -/
def callSetup (widthUs srcHz freqMhz : Word32) (s : State) : Call :=
  if s.halt = false ∨ s.ch.armed = true then .refused .setupOutsidePrecondition
  else
    match periodTicksOf s.cfg srcHz freqMhz with
    | none => .next (s, .err .invalidArgument)
    | some period =>
      match pulseTicksOf s.cfg srcHz widthUs with
      | none => .next (s, .err .invalidArgument)
      | some width =>
        if period ≤ width then .next (s, .err .invalidArgument)
        else if s.cfg.nEventSlots - s.slotsUsed < slotsPerChannel then .next (s, .err .resourceExhausted)
        else
          let p := s.slotsUsed
          let w := s.slotsUsed + 1
          if s.hasSlot w then
            let t := forceInactive { s with slotsUsed := s.slotsUsed + slotsPerChannel }
            let u := writeMatch w width (writeMatch p period t)
            .next ({ u with ch := ⟨true, p, w⟩ }, .slot p)
          else .fault (.noSuchSlot w)

/-- The precondition of the update operations: an armed channel and the handle `setup` returned (R108, R110). -/
def State.handleOk (s : State) (slot : Nat) : Bool := s.ch.armed && decide (slot = s.ch.pslot)

/-- `update_frequency(src_clock_hz, freq_mhz, period_slot)` (R108). -/
def callUpdateFrequency (srcHz freqMhz : Word32) (slot : Nat) (s : State) : Call :=
  if s.handleOk slot then
    match periodTicksOf s.cfg srcHz freqMhz with
    | none => .next (s, .err .invalidArgument)
    | some period =>
      match s.matchOf (slot + 1) with
      | none => .fault (.noSuchSlot (slot + 1))
      | some width =>
        if period ≤ width then .next (s, .err .invalidArgument)
        else .next (bracketWrite slot period s, .ok)
  else .refused (.foreignHandle slot)

/-- `update_pulse_width(src_clock_hz, pulse_width_us, period_slot)` (R110). -/
def callUpdatePulseWidth (srcHz widthUs : Word32) (slot : Nat) (s : State) : Call :=
  if s.handleOk slot then
    match pulseTicksOf s.cfg srcHz widthUs with
    | none => .next (s, .err .invalidArgument)
    | some width =>
      match s.matchOf slot with
      | none => .fault (.noSuchSlot slot)
      | some period =>
        if period ≤ width then .next (s, .err .invalidArgument)
        else if s.hasSlot (slot + 1) then .next (bracketWrite (slot + 1) width s, .ok)
        else .fault (.noSuchSlot (slot + 1))
  else .refused (.foreignHandle slot)

/-- `enable(on)` (R111). -/
def enable (on : Bool) (s : State) : State :=
  if on then startCounter s else forceInactive (stopCounter s)

/-! ## Refresh, reset, boot, and what steps next -/

/-- `emit refresh(kind)`: a request with its snapshot, and no change of the block's state (R180, R216). -/
def emitRefresh (k : RefreshKind) (s : State) : State := record (.refresh k s.snapshot) s

/-- `rst`: every item of state at its reset value (R230); what the environment has in store and what has left the block
are not the block's state. -/
def assertReset (s : State) : State :=
  { State.resetOf s.cfg with trace := s.trace, history := s.history }

/-- The boot transition: the one `setup`, then `sys <- RUN`, or `HALTED(e)` (R233). -/
def boot (s : State) : Exec :=
  andThen (callSetup pulseWidthUs s.cfg.srcClockHz s.cfg.setupFreqMhz s) fun t r =>
    match r with
    | .err e => { t with sys := .halted e }
    | _ => { t with sys := .run }

/-- A MAIN step is enabled exactly when `sys = RUN` (R170); `HALTED` is a fault state (R30). -/
def whenRunning (s : State) (k : Exec) : Exec :=
  match s.sys with
  | .run => k
  | .unset => .refused .beforeBoot
  | .halted e => .fault (.halted e)

/-- What the next step of the machine is. -/
inductive Turn where
  /-- The reset line is asserted. -/
  | reset (t : State)
  /-- Boot, before any agent steps. -/
  | boot
  /-- `HALTED`: no agent has a step. -/
  | dead (e : Err)
  /-- The instruction of the next trace word, in the state without that word. -/
  | run (i : Instr) (t : State)
  /-- The next trace word spells no instruction. -/
  | bad (e : DecodeError)
deriving DecidableEq, Repr

/-- The next step: reset whenever its line is asserted, boot first, nothing in `HALTED`, then the trace's next word;
with no event in store the main loop takes its step, since MAIN never waits (R13, R170, R231, R233). -/
def nextTurn (s : State) : Turn :=
  match s.trace with
  | .rst :: rest => .reset (assertReset { s with trace := rest })
  | items =>
    match s.sys with
    | .unset => .boot
    | .halted e => .dead e
    | .run =>
      match items with
      | .word ws :: rest =>
        match decodeWord ws with
        | .ok i => .run i { s with trace := rest }
        | .error e => .bad e
      | _ => .run .main s

/-! ## Placing an instruction where the next step takes it -/

/-- Make `c` the current command at `FETCH`, as a fetched command is (R71, R171): the empty stack for `None`, one more
entry otherwise, in place of the top where the stack is full. -/
def makeCurrent (c : Command) (s : State) : State :=
  if c = .none then { s with ml := .fetch, sz := 0 }
  else
    let k := min s.sz.val 7
    { s with ml := .fetch, stk := s.stk.set k c (by omega), sz := ⟨k + 1, by omega⟩ }

/-- The state in which a trace can run: after boot, if boot has not run yet. -/
def booted (s : State) : State :=
  if s.sys = .unset then
    match boot s with
    | .next t => t
    | _ => s
  else s

/-- Put a trace word where `step` takes its next one. -/
def placeWord (bytes : List Byte) (s : State) : State :=
  { s with trace := .word bytes :: s.trace }

end Sys2Proof.Machine
end

