-- ==== Sys2Proof/Machine/MainLoop.lean ====
section
/-! DEFINITION. The main dispatch loop (spec file 42): its 20 phases, the meaning of MAIN, of each command and of
rpm_to_mhz. A command's meaning is a MAIN step in that command's service (notes/assumptions/10.md). -/

namespace Sys2Proof.Machine

/-! ## The phases: the sub-action, then the successor -/

/-- `FETCH`: inspect `current` (R171, R172). -/
def phaseFetch (s : State) : State := { s with ml := firstPhase s.current }

/-- `I1` (R173): the sum is formed without wrap. -/
def phaseI1 (s : State) : State :=
  { s with cmdRpm := clampRpm (s.cmdRpm.toNat + s.stepSize), ml := .i2 }

/-- `I2` (R173). -/
def phaseI2 (s : State) : State := { emitRefresh .commanded s with ml := .i3 }

/-- `I3` (R173). -/
def phaseI3 (s : State) : State := { pop s with ml := .fetch }

/-- `D1` (R174): the difference never goes below zero. -/
def phaseD1 (s : State) : State :=
  let v := if s.cmdRpm.toNat < rpmMin + s.stepSize then rpmMin else s.cmdRpm.toNat - s.stepSize
  { s with cmdRpm := BitVec.ofNat 16 v, ml := .d2 }

/-- `D2` (R174). -/
def phaseD2 (s : State) : State := { emitRefresh .commanded s with ml := .d3 }

/-- `D3` (R174). -/
def phaseD3 (s : State) : State := { pop s with ml := .fetch }

/-- `T1` (R175). -/
def phaseT1 (s : State) : State := { s with outEn := !s.outEn, ml := .t2 }

/-- `T2` (R175). -/
def phaseT2 (s : State) : State := { enable s.outEn s with ml := .t3 }

/-- `T3` (R175). -/
def phaseT3 (s : State) : State := { emitRefresh .output s with ml := .t4 }

/-- `T4` (R175). -/
def phaseT4 (s : State) : State := { pop s with ml := .t5 }

/-- `T5` (R175). -/
def phaseT5 (s : State) : State := { push .applyFrequency s with ml := .fetch }

/-- `F1` (R176). -/
def phaseF1 (s : State) : State := { s with cmdRpm := clampRpm s.cmdRpm.toNat, ml := .f2 }

/-- `F2` (R176): the result is dropped. -/
def phaseF2 (s : State) : Exec :=
  andThen (callUpdateFrequency s.cfg.srcClockHz (rpmToMhz s.cmdRpm) s.ch.pslot s) fun t _ => { t with ml := .f3 }

/-- `F3` (R176). -/
def phaseF3 (s : State) : State := { enable s.outEn s with ml := .f4 }

/-- `F4` (R176): whatever F2 returned (C4). -/
def phaseF4 (s : State) : State := { s with appRpm := s.cmdRpm, ml := .f5 }

/-- `F5` (R176). -/
def phaseF5 (s : State) : State := { emitRefresh .applied s with ml := .f6 }

/-- `F6` (R176). -/
def phaseF6 (s : State) : State := { pop s with ml := .fetch }

/-- `W1` (R177): the result is dropped. -/
def phaseW1 (s : State) : Exec :=
  andThen (callUpdatePulseWidth s.cfg.srcClockHz pulseWidthUs s.ch.pslot s) fun t _ => { t with ml := .w2 }

/-- `W2` (R177). -/
def phaseW2 (s : State) : State := { pop s with ml := .fetch }

/-- The phase that `ml` names (R170). -/
def runPhase (s : State) : Exec :=
  match s.ml with
  | .fetch => .next (phaseFetch s)
  | .i1 => .next (phaseI1 s)
  | .i2 => .next (phaseI2 s)
  | .i3 => .next (phaseI3 s)
  | .d1 => .next (phaseD1 s)
  | .d2 => .next (phaseD2 s)
  | .d3 => .next (phaseD3 s)
  | .t1 => .next (phaseT1 s)
  | .t2 => .next (phaseT2 s)
  | .t3 => .next (phaseT3 s)
  | .t4 => .next (phaseT4 s)
  | .t5 => .next (phaseT5 s)
  | .f1 => .next (phaseF1 s)
  | .f2 => phaseF2 s
  | .f3 => .next (phaseF3 s)
  | .f4 => .next (phaseF4 s)
  | .f5 => .next (phaseF5 s)
  | .f6 => .next (phaseF6 s)
  | .w1 => phaseW1 s
  | .w2 => .next (phaseW2 s)

/-- A MAIN step in the service of `c`; refused where another command is in service, since which command is serviced is
decided at `FETCH` alone (R171). -/
def serveCommand (c : Command) (s : State) : Exec :=
  whenRunning s (if s.inService = c then runPhase s else .refused (.notInService c))

/-! ## The meanings -/

/-- `MAIN` (R170): one phase. -/
def execMain (s : State) : Exec := whenRunning s (runPhase s)

/-- Command `None` (R172). -/
def execCmdNone (s : State) : Exec := serveCommand .none s

/-- Command `Increase` (R173). -/
def execIncrease (s : State) : Exec := serveCommand .increase s

/-- Command `Decrease` (R174). -/
def execDecrease (s : State) : Exec := serveCommand .decrease s

/-- Command `ToggleOutput` (R175). -/
def execToggleOutput (s : State) : Exec := serveCommand .toggleOutput s

/-- Command `ApplyFrequency` (R176). -/
def execApplyFrequency (s : State) : Exec := serveCommand .applyFrequency s

/-- Command `ApplyPulseWidth` (R177). -/
def execApplyPulseWidth (s : State) : Exec := serveCommand .applyPulseWidth s

/-- `rpm_to_mhz` (R178): no state, no error. -/
def execRpmToMhz (rpm : Rpm) (s : State) : Exec :=
  recordResult (.next (s, .freqMhz (rpmToMhz rpm)))

end Sys2Proof.Machine
end

