-- ==== Sys2Proof/Machine/PulseGenerator.lean ====
section
/-! DEFINITION. The meanings of the Pulse Generator's operations and of the timer event (spec file 40). An operation
does not look at `sys`: its rule names no such condition (notes/assumptions/11.md). -/

namespace Sys2Proof.Machine

/-- `setup` (R106, R107). -/
def execSetup (widthUs srcHz freqMhz : Word32) (s : State) : Exec :=
  recordResult (callSetup widthUs srcHz freqMhz s)

/-- `update_frequency` (R108). -/
def execUpdateFrequency (srcHz freqMhz : Word32) (slot : Nat) (s : State) : Exec :=
  recordResult (callUpdateFrequency srcHz freqMhz slot s)

/-- `update_pulse_width` (R110). -/
def execUpdatePulseWidth (srcHz widthUs : Word32) (slot : Nat) (s : State) : Exec :=
  recordResult (callUpdatePulseWidth srcHz widthUs slot s)

/-- `enable` (R111): no result. -/
def execEnable (on : Bool) (s : State) : Exec := .next (enable on s)

/-- `TMR` (R112): no change unless `sys = RUN` and `HALT = 0`. -/
def execTmr (s : State) : Exec :=
  if s.sys = .run ∧ s.halt = false then timerTick s else .next s

end Sys2Proof.Machine
end

