-- ==== Sys2Proof/Machine/Sequencer.lean ====
section
/-! DEFINITION. The meanings of the Command Sequencer's operations and of the interrupt events (spec file 41). -/

namespace Sys2Proof.Machine

/-- `push` (R140): no result. -/
def execPush (c : Command) (s : State) : Exec := .next (push c s)

/-- `pop` (R141): no result. -/
def execPop (s : State) : Exec := .next (pop s)

/-- `gate_accept` (R143). -/
def execGateAccept (s : State) : Exec :=
  recordResult (.next ((gateAccept s).1, .accepted (gateAccept s).2))

/-- `TICK` (R146): the counter never wraps, it faults (D10). -/
def execTick (s : State) : Exec :=
  if s.sys = .run then
    if s.now < 2 ^ s.cfg.tickW - 1 then .next { s with now := s.now + 1 } else .fault .tickWrap
  else .next s

/-- `ENC_B(a)` (R147). -/
def execEncB (a : Bool) (s : State) : Exec :=
  .next (onAcceptedEdge s fun t => if a = t.cfg.encIncLevel then push .increase t else push .decrease t)

/-- `BTN` (R148). -/
def execBtn (s : State) : Exec := .next (onAcceptedEdge s (push .toggleOutput))

/-- `SW(d)` (R149). -/
def execSw (d : SwDir) (s : State) : Exec :=
  .next (onAcceptedEdge s fun t =>
    let u := { t with fast := !t.fast }
    match d with
    | .toOff => push .applyFrequency u
    | .toOn => u)

/-- `ENC_A` (R150): no state change, ever. -/
def execEncA (s : State) : Exec := .next s

end Sys2Proof.Machine
end

