-- ==== Sys2Proof/Machine/Dispatch.lean ====
section
/-! DEFINITION. One arm per instruction: the meaning it calls. -/

namespace Sys2Proof.Machine

def exec (i : Instr) (s : State) : Host.Outcome State Fault Refusal :=
  match i with
  -- commands
  | .cmdNone => Sys2Proof.Machine.execCmdNone s
  | .increase => Sys2Proof.Machine.execIncrease s
  | .decrease => Sys2Proof.Machine.execDecrease s
  | .toggleOutput => Sys2Proof.Machine.execToggleOutput s
  | .applyFrequency => Sys2Proof.Machine.execApplyFrequency s
  | .applyPulseWidth => Sys2Proof.Machine.execApplyPulseWidth s
  -- events
  | .tick => Sys2Proof.Machine.execTick s
  | .encB a => Sys2Proof.Machine.execEncB a s
  | .btn => Sys2Proof.Machine.execBtn s
  | .sw d => Sys2Proof.Machine.execSw d s
  | .tmr => Sys2Proof.Machine.execTmr s
  | .encA => Sys2Proof.Machine.execEncA s
  | .main => Sys2Proof.Machine.execMain s
  -- operations
  | .setup widthUs srcHz freqMhz => Sys2Proof.Machine.execSetup widthUs srcHz freqMhz s
  | .updateFrequency srcHz freqMhz slot => Sys2Proof.Machine.execUpdateFrequency srcHz freqMhz slot s
  | .updatePulseWidth srcHz widthUs slot => Sys2Proof.Machine.execUpdatePulseWidth srcHz widthUs slot s
  | .enable on => Sys2Proof.Machine.execEnable on s
  | .push cmd => Sys2Proof.Machine.execPush cmd s
  | .pop => Sys2Proof.Machine.execPop s
  | .rpmToMhz rpm => Sys2Proof.Machine.execRpmToMhz rpm s
  | .gateAccept => Sys2Proof.Machine.execGateAccept s

end Sys2Proof.Machine
end

