-- ==== Sys2Proof/Machine/Step.lean ====
section
/-! DEFINITION. One step of the machine, and where an instruction is put so that the next step runs it. -/

namespace Sys2Proof.Machine

/-- One step: one atomic transition of the agent whose turn it is (R13), or reset, or boot. -/
def step (s : State) : Host.Outcome State Fault Refusal :=
  match nextTurn s with
  | .reset t => .next t
  | .boot => boot s
  | .dead e => .fault (.halted e)
  | .run i t => exec i t
  | .bad e => .refused (.badWord e)

/-- `s` with the instruction of a table word as the next step's: the word at the head of the trace, after boot where
boot has not run (no trace word is taken before it, R231), and for a command that command current at FETCH
(notes/assumptions/4.md). -/
def State.withFetchWord (s : State) (nbits w : Nat) : State :=
  let t := placeWord (tableInstrBytes nbits w) (booted s)
  match decodeTableWord nbits w with
  | some .cmdNone => makeCurrent .none t
  | some .increase => makeCurrent .increase t
  | some .decrease => makeCurrent .decrease t
  | some .toggleOutput => makeCurrent .toggleOutput t
  | some .applyFrequency => makeCurrent .applyFrequency t
  | some .applyPulseWidth => makeCurrent .applyPulseWidth t
  | _ => t

end Sys2Proof.Machine
end

