-- ==== Sys2Proof/Machine/Trace.lean ====
section
/-! DEFINITION. Runs of the block as the spec writes them: a trace of events (R88) and its pseudo-events (R89). Claims
about several steps use these. -/

namespace Sys2Proof.Machine

/-- `ENC_INC` (R89). -/
def encInc (c : Config) : Instr := .encB c.encIncLevel

/-- `ENC_DEC` (R89). -/
def encDec (c : Config) : Instr := .encB (!c.encIncLevel)

/-- Go on with `k` after a step that answers a next state. -/
def thenStep (o : Exec) (k : State → Exec) : Exec :=
  match o with
  | .next t => k t
  | .fault f => .fault f
  | .refused r => .refused r

/-- The events of a trace, one step each, the first one first (R88). -/
def runTrace : List Instr → State → Exec
  | [], s => .next s
  | i :: rest, s => thenStep (exec i s) (runTrace rest)

/-- `TICK*n`, `TMR*n`, `MAIN*n`: an event repeated (R89). -/
def repeated (i : Instr) (n : Nat) : List Instr := List.replicate n i

/-- MAIN steps up to and including the one that writes `ml <- FETCH`, at most `n` of them. -/
def serviceWithin : Nat → State → Exec
  | 0, s => .next s
  | n + 1, s => thenStep (exec .main s) fun t => if t.ml = .fetch then .next t else serviceWithin n t

/-- The number of MAIN steps of the longest service, ApplyFrequency's (R176). -/
def longestService : Nat := 7

/-- `SERVICE`: one full service of the current command, from `FETCH` (R89). -/
def service (s : State) : Exec := serviceWithin longestService s

/-- `ml = FETCH` and `sz = 0`: nothing pending, nothing in service (R235). -/
def quiescent (s : State) : Bool := decide (s.ml = .fetch) && decide (s.sz.val = 0)

/-- `DRAIN`: `SERVICE` repeated until the block is quiescent, at most `n` times (R89). -/
def drain : Nat → State → Exec
  | 0, s => .next s
  | n + 1, s => if quiescent s then .next s else thenStep (service s) (drain n)

end Sys2Proof.Machine
end

