-- ==== Sys2Proof/Safety.lean ====
section
/-! DEFINITION. What a safe state is, in the terms the claims use: the invariants the spec states (R21, R24, R31 to R39)
and well-formed configurations (R8). -/

namespace Sys2Proof.Machine

/-- The channel invariant of R39: `MATCH[ch.wslot] < MATCH[ch.pslot]`, both slots being there. -/
def State.PulseBelowPeriod (s : State) : Prop :=
  ∃ width period, s.matchOf s.ch.wslot = some width ∧ s.matchOf s.ch.pslot = some period ∧ width < period

/-- No valid entry of the stack is `None` (R32, second invariant). -/
def State.NoNoneOnStack (s : State) : Prop :=
  ∀ k : Fin 8, k.val < s.sz.val → s.stk[k] ≠ .none

/-- The states the block's rules keep to, field by field. -/
structure State.Inv (s : State) : Prop where
  /-- The parameters are in their ranges (R7). -/
  cfg_inRange : s.cfg.InRange
  /-- R21. -/
  cmdRpm_range : rpmMin ≤ s.cmdRpm.toNat ∧ s.cmdRpm.toNat ≤ rpmMax
  /-- `now` fits TICK_W bits (R23). -/
  now_fits : s.now < 2 ^ s.cfg.tickW
  /-- R24. -/
  gateLast_le_now : s.gateLast ≤ s.now
  /-- `COUNT` fits COUNTER_W bits (R33). -/
  count_fits : s.count < 2 ^ s.cfg.counterW
  /-- There are N_EVENT_SLOTS slots (R35). -/
  slots_length : s.slots.length = s.cfg.nEventSlots
  /-- Live and shadow are equal and fit COUNTER_W bits (R35). -/
  slots_equal_fit : ∀ m ∈ s.slots, m.live = m.reload ∧ m.live < 2 ^ s.cfg.counterW
  /-- R36. -/
  slotsUsed_le : s.slotsUsed ≤ s.cfg.nEventSlots
  /-- An armed channel holds two allocated, adjacent slots (R37, R106), and the pulse is below the period (R39). -/
  armed_channel : s.ch.armed = true →
    s.ch.wslot = s.ch.pslot + 1 ∧ s.ch.wslot < s.slotsUsed ∧ s.PulseBelowPeriod
  /-- `sys = RUN` only after a successful `setup` (R233). -/
  run_armed : s.sys = .run → s.ch.armed = true
  /-- Before boot the counter is stopped and the channel unarmed (R230). -/
  unset_unarmed : s.sys = .unset → s.ch.armed = false ∧ s.halt = true

end Sys2Proof.Machine

namespace Sys2Proof

open Machine

/-- The two tick counts of the boot `setup` (R233). -/
def Config.bootPeriod (c : Config) : Option Nat := periodTicksOf c c.srcClockHz c.setupFreqMhz

/-- The pulse ticks of the fixed width (R8, R233). -/
def Config.bootWidth (c : Config) : Option Nat := pulseTicksOf c c.srcClockHz pulseWidthUs

/-- `update_frequency` with `rpm_to_mhz(rpm)` is accepted against the pulse ticks `width` (R8, R108). -/
def Config.acceptsRpm (c : Config) (width : Nat) (rpm : Rpm) : Prop :=
  ∃ period, periodTicksOf c c.srcClockHz (rpmToMhz rpm) = some period ∧ width < period

/-- A well-formed configuration (R8): two free slots, a successful boot `setup`, and every speed in 2500..9000
accepted. -/
structure Config.WellFormed (c : Config) : Prop where
  inRange : c.InRange
  freeSlots : slotsPerChannel ≤ c.nEventSlots - c.slotsUsedReset
  bootAccepted : ∃ period width, c.bootPeriod = some period ∧ c.bootWidth = some width ∧ width < period
  rpmAccepted : ∀ width, c.bootWidth = some width →
    ∀ rpm : Rpm, rpmMin ≤ rpm.toNat → rpm.toNat ≤ rpmMax → c.acceptsRpm width rpm

end Sys2Proof
end

