-- ==== Sys2Proof/Certificates/Slice0/Obligations.lean ====
section
/-! DEFINITION. The statements for the provers, each made from the numbered rules its docstring names. A statement
quantifies over every state, hence over every configuration (State carries one, notes/assumptions/1.md). Where a
docstring says "the history", it means the model's own record of what leaves the block (notes/assumptions/5.md). -/

open Sys2Proof Sys2Proof.Machine

/-! ## Encodings -/

/-- Words written out from the codes of R81, R82 and R83 decode to what they spell; the format nibble in the upper half
of the byte is the model's (notes/assumptions/3.md). -/
def Obligations.WrittenCodesDecode : Prop :=
  decodeWord [0b00000000#8] = .ok .tick ∧ decodeWord [0b00000010#8] = .ok (.encB false) ∧
  decodeWord [0b00000011#8] = .ok (.encB true) ∧ decodeWord [0b00000100#8] = .ok .btn ∧
  decodeWord [0b00000110#8] = .ok (.sw .toOff) ∧ decodeWord [0b00000111#8] = .ok (.sw .toOn) ∧
  decodeWord [0b00001000#8] = .ok .tmr ∧ decodeWord [0b00001010#8] = .ok .encA ∧
  decodeWord [0b00001100#8] = .ok .main ∧ decodeWord [0b00010011#8] = .ok .toggleOutput ∧
  decodeWord [0b00010101#8] = .ok .applyPulseWidth ∧ decodeWord [0b00100101#8] = .ok .pop ∧
  decodeWord [0b00100110#8, 0xF4#8, 0x1A#8] = .ok (.rpmToMhz 6900#16)

/-- Decoding an encoded well-formed instruction gives it back, with every operand at every value (R81 to R83 for the
codes; the framing is the model's, notes/assumptions/3.md). -/
def Obligations.EncodeThenDecode : Prop :=
  ∀ i : Instr, i.wf = true → decodeWord (encode i) = .ok i

/-- R86, U6: the command codes 6 and 7, the event kind 7 and an argument bit on a kind without argument spell nothing;
every other code spells something; a step whose trace word is a reserved event code is refused. -/
def Obligations.ReservedCodesRejected : Prop :=
  (∀ c : BitVec 3, (∃ cmd, decodeCmd c = .ok cmd) ↔ c ≠ 6#3 ∧ c ≠ 7#3) ∧
  (∀ e : BitVec 4, (∃ i, decodeEvt e = .ok i) ↔
    e ∉ [0b0001#4, 0b0101#4, 0b1001#4, 0b1011#4, 0b1101#4, 0b1110#4, 0b1111#4]) ∧
  (∀ (s : State) (rest : List Stimulus) (e : BitVec 4), s.sys = .run →
    e ∈ [0b0001#4, 0b0101#4, 0b1001#4, 0b1011#4, 0b1101#4, 0b1110#4, 0b1111#4] →
    s.trace = .word [0#4 ++ e] :: rest → step s = .refused (.badWord (.reservedEvent e.toNat)))

/-! ## Reset, boot, and what a step is -/

/-- R20, R44, R230: the reset state of every configuration, item by item. `ch.pslot` and `ch.wslot`, which the spec
leaves unspecified, are not in the statement. -/
def Obligations.ResetStateOfEveryConfiguration : Prop :=
  ∀ c : Config, let s := State.resetOf c
    s.cmdRpm = 6900#16 ∧ s.appRpm = c.appliedRpmReset ∧ s.now = 0 ∧ s.gateLast = 0 ∧ s.fast = c.fastReset ∧
    s.outEn = false ∧ s.ml = .fetch ∧ s.sys = .unset ∧ s.sz.val = 0 ∧ s.current = .none ∧
    (∀ k : Fin 8, s.stk[k] = .none) ∧ s.count = 0 ∧ s.halt = true ∧ s.slots.length = c.nEventSlots ∧
    (∀ m ∈ s.slots, m.live = 0 ∧ m.reload = 0) ∧ s.slotsUsed = c.slotsUsedReset ∧ s.ch.armed = false ∧
    s.out.level = 1#1 ∧ s.cfg = c

/-- R230: asserting `rst`, in any run state, puts every item at its reset value. That the reset line comes as an item of
the trace, and that trace and history outlive it, is the model's (notes/assumptions/2.md). -/
def Obligations.AssertedResetRestores : Prop :=
  ∀ (s : State) (rest : List Stimulus), s.trace = .rst :: rest →
    step s = .next { State.resetOf s.cfg with trace := rest, history := s.history }

/-- R233 (with R106): from the reset state's conditions, boot programs the two slots, arms the channel and sets RUN, and
changes nothing else. -/
def Obligations.BootArmsTheChannel : Prop :=
  ∀ (s : State) (period width : Nat), s.sys = .unset → (∀ rest, s.trace ≠ .rst :: rest) →
    s.halt = true → s.ch.armed = false → s.slots.length = s.cfg.nEventSlots →
    periodTicksOf s.cfg s.cfg.srcClockHz s.cfg.setupFreqMhz = some period →
    pulseTicksOf s.cfg s.cfg.srcClockHz 2000#32 = some width →
    width < period → s.slotsUsed + 2 ≤ s.cfg.nEventSlots →
    step s = .next { s with
      sys := .run, out := .inactive, slotsUsed := s.slotsUsed + 2,
      slots := (s.slots.set s.slotsUsed ⟨period, period⟩).set (s.slotsUsed + 1) ⟨width, width⟩,
      ch := ⟨true, s.slotsUsed, s.slotsUsed + 1⟩ }

/-- R203, R233: a failed boot `setup` ends in `HALTED(e)` and writes nothing else; `InvalidArgument` is reported before
`ResourceExhausted` (R208). -/
def Obligations.FailedBootHalts : Prop :=
  ∀ s : State, s.sys = .unset → (∀ rest, s.trace ≠ .rst :: rest) → s.halt = true → s.ch.armed = false →
    ((¬ ∃ period width, periodTicksOf s.cfg s.cfg.srcClockHz s.cfg.setupFreqMhz = some period ∧
        pulseTicksOf s.cfg s.cfg.srcClockHz 2000#32 = some width ∧ width < period) →
      step s = .next { s with sys := .halted .invalidArgument }) ∧
    (∀ period width, periodTicksOf s.cfg s.cfg.srcClockHz s.cfg.setupFreqMhz = some period →
        pulseTicksOf s.cfg s.cfg.srcClockHz 2000#32 = some width → width < period →
        s.cfg.nEventSlots - s.slotsUsed < 2 →
      step s = .next { s with sys := .halted .resourceExhausted })

/-- R30, R203: in `HALTED(e)` no agent has a step, whatever event is in store; only the reset line leads out. -/
def Obligations.HaltedBlockHasNoStep : Prop :=
  ∀ (s : State) (e : Err), s.sys = .halted e → (∀ rest, s.trace ≠ .rst :: rest) →
    step s = .fault (.halted e)

/-- R13, R88, R170: when the trace's next word decodes to `i`, the step is `exec` of `i` in the state without that word;
with no event in store the main loop takes its step, since MAIN is never disabled and never waits. That the steps to come
are a list in State, and that an empty one means MAIN, is the model's (notes/assumptions/2.md). -/
def Obligations.StepRunsDecodedInstruction : Prop :=
  (∀ (s : State) (ws : List Byte) (rest : List Stimulus) (i : Instr), s.sys = .run →
    s.trace = .word ws :: rest → decodeWord ws = .ok i →
    step s = exec i { s with trace := rest }) ∧
  (∀ s : State, s.sys = .run → s.trace = [] → step s = exec .main s)

/-! ## The interrupt events -/

/-- R146: TICK adds one to `now` and touches nothing else; at the counter's maximum it faults. -/
def Obligations.TickCountsOrFaults : Prop :=
  ∀ s : State, s.sys = .run →
    exec .tick s = if s.now < 2 ^ s.cfg.tickW - 1 then .next { s with now := s.now + 1 } else .fault .tickWrap

/-- R147: an accepted ENC_B refreshes the gate and pushes Increase or Decrease by the sampled level; a rejected one
changes nothing. -/
def Obligations.EncoderEdgePushesByLevel : Prop :=
  ∀ (s : State) (a : Bool), s.sys = .run →
    exec (.encB a) s =
      if s.gateLast + 15 < s.now then
        .next (push (if a = s.cfg.encIncLevel then .increase else .decrease) { s with gateLast := s.now })
      else .next s

/-- R148: BTN, when `sys = RUN` and the gate accepts, refreshes the gate and pushes ToggleOutput; otherwise it changes
nothing. Neither `out_en` nor the timer is touched. -/
def Obligations.ButtonPushesToggleOutput : Prop :=
  ∀ s : State, ∃ t, exec .btn s = .next t ∧
    t = { s with gateLast := t.gateLast, stk := t.stk, sz := t.sz, history := t.history } ∧
    (s.sys = .run → s.gateLast + 15 < s.now → s.sz.val < 8 →
      t.gateLast = s.now ∧ t.sz.val = s.sz.val + 1 ∧ t.current = .toggleOutput ∧
      ∀ k : Fin 8, k.val ≠ s.sz.val → t.stk[k] = s.stk[k]) ∧
    (s.sys = .run → s.gateLast + 15 < s.now → s.sz.val = 8 →
      t.gateLast = s.now ∧ t.sz = s.sz ∧ t.stk = s.stk) ∧
    (s.sys ≠ .run ∨ s.now ≤ s.gateLast + 15 → t = s)

/-- R149: an accepted SW flips `fast`, refreshes the gate, and pushes ApplyFrequency on ToOff alone; a rejected one
changes nothing, the flag included. -/
def Obligations.SwitchEdgeFlipsFast : Prop :=
  ∀ (s : State) (d : SwDir), s.sys = .run →
    exec (.sw d) s =
      if s.gateLast + 15 < s.now then
        .next (if d = .toOff then push .applyFrequency { s with gateLast := s.now, fast := !s.fast }
          else { s with gateLast := s.now, fast := !s.fast })
      else .next s

/-- R150: ENC_A changes no state, ever; as a step it takes its word from the trace and neither tests nor refreshes the
gate. -/
def Obligations.EncoderPhaseAHasNoEffect : Prop :=
  (∀ s : State, exec .encA s = .next s) ∧
  (∀ (s : State) (rest : List Stimulus), s.sys = .run → s.trace = .word [0b00001010#8] :: rest →
    step s = .next { s with trace := rest })

/-- R144: after an accepted edge of one input, an edge of any input at most 15 ticks later, with no accepted edge in
between, changes nothing. -/
def Obligations.OneGateThrottlesAllInputs : Prop :=
  ∀ (s t u : State) (i j : Instr),
    (i = .btn ∨ (∃ a, i = .encB a) ∨ ∃ d, i = .sw d) → (j = .btn ∨ (∃ a, j = .encB a) ∨ ∃ d, j = .sw d) →
    s.sys = .run → s.gateLast + 15 < s.now → exec i s = .next t →
    u.gateLast = t.gateLast → u.now ≤ s.now + 15 → exec j u = .next u

/-! ## The timer event -/

/-- R112, R113: one tick of the effective clock, in the four cases of the counter; both matches are compared with the
count before the tick, and a rollover reloads every slot. -/
def Obligations.TimerTickByCase : Prop :=
  ∀ s : State, s.sys = .run →
    (s.halt = true → exec .tmr s = .next s) ∧
    (s.halt = false → s.ch.armed = false →
      exec .tmr s = .next { s with count := (s.count + 1) % 2 ^ s.cfg.counterW }) ∧
    (∀ period width, s.halt = false → s.ch.armed = true →
      s.matchOf s.ch.pslot = some period → s.matchOf s.ch.wslot = some width →
      exec .tmr s =
        if s.count = period then
          .next { s with count := 0, out := .active, slots := s.slots.map fun m => ⟨m.reload, m.reload⟩ }
        else if s.count = width then
          .next { s with count := (s.count + 1) % 2 ^ s.cfg.counterW, out := .inactive }
        else .next { s with count := (s.count + 1) % 2 ^ s.cfg.counterW })

/-- R114: from the state after a rollover, one whole cycle: active for the counts 0 .. W, inactive up to M, and after
M + 1 ticks the same state again. -/
def Obligations.WaveformOfOneCycle : Prop :=
  ∀ (s : State) (period width : Nat), s.sys = .run → s.halt = false → s.ch.armed = true →
    s.matchOf s.ch.pslot = some period → s.matchOf s.ch.wslot = some width → width < period →
    period < 2 ^ s.cfg.counterW → (∀ m ∈ s.slots, m.live = m.reload) → s.count = 0 → s.out = .active →
    (∀ n, n ≤ period → runTrace (repeated .tmr n) s =
      .next { s with count := n, out := if n ≤ width then .active else .inactive }) ∧
    runTrace (repeated .tmr (period + 1)) s = .next s

/-- R242: with the count above the period match, no pulse begins until the counter has wrapped and counted up to the
match again; the next tick is the rollover. -/
def Obligations.CountAbovePeriodWrapsFirst : Prop :=
  ∀ (s : State) (period width : Nat), s.sys = .run → s.halt = false → s.ch.armed = true →
    s.matchOf s.ch.pslot = some period → s.matchOf s.ch.wslot = some width → width < period →
    period < s.count → s.count < 2 ^ s.cfg.counterW → (∀ m ∈ s.slots, m.live = m.reload) →
    s.out = .inactive →
    (∀ n, n ≤ 2 ^ s.cfg.counterW - s.count + period → runTrace (repeated .tmr n) s =
      .next { s with count := (s.count + n) % 2 ^ s.cfg.counterW }) ∧
    runTrace (repeated .tmr (2 ^ s.cfg.counterW - s.count + period + 1)) s =
      .next { s with count := 0, out := .active }

/-! ## The operations of the sequencer -/

/-- R140: a push stores the command above the top, which becomes the current command; on a full stack no item of the
block's state changes. -/
def Obligations.PushStoresOrDrops : Prop :=
  ∀ (s : State) (c : Command), ∃ t, exec (.push c) s = .next t ∧
    t = { s with stk := t.stk, sz := t.sz, history := t.history } ∧
    (s.sz.val < 8 → t.sz.val = s.sz.val + 1 ∧ t.current = c ∧ t.history = s.history ∧
      ∀ k : Fin 8, t.stk[k] = if k.val = s.sz.val then c else s.stk[k]) ∧
    (s.sz.val = 8 → t.stk = s.stk ∧ t.sz = s.sz ∧ t.current = s.current)

/-- R141: a pop takes one off the size and keeps the entry's bits; the new current command is the entry beneath, `None`
when there is none; on the empty stack nothing changes. -/
def Obligations.PopUncoversTheEntryBeneath : Prop :=
  ∀ s : State, ∃ t, exec .pop s = .next t ∧ t = { s with sz := t.sz } ∧
    (0 < s.sz.val → t.sz.val + 1 = s.sz.val) ∧ (s.sz.val = 0 → t = s) ∧
    (s.sz.val ≤ 1 → t.current = .none) ∧
    (∀ k : Fin 8, k.val + 2 = s.sz.val → t.current = s.stk[k])

/-- R143: the gate opens more than 15 ticks after the last accepted edge; only an acceptance writes, and only
`gate_last`. The result stands in the history. -/
def Obligations.GateAcceptsAfterGuard : Prop :=
  ∀ s : State, exec .gateAccept s =
    if s.gateLast + 15 < s.now then
      .next { s with gateLast := s.now, history := .returned (.accepted true) :: s.history }
    else .next { s with history := .returned (.accepted false) :: s.history }

/-- R142, R152: commands pushed where there is room come back newest first; pops between change nothing else. -/
def Obligations.PushedCommandsComeBackNewestFirst : Prop :=
  ∀ (s : State) (cs : List Command) (j : Nat), s.sz.val + cs.length ≤ 8 → j < cs.length →
    ∃ t, runTrace (cs.map .push ++ repeated .pop j) s = .next t ∧
      t.sz.val + j = s.sz.val + cs.length ∧ some t.current = cs.reverse[j]? ∧
      t = { s with stk := t.stk, sz := t.sz }

/-- R152: nine pushes onto the empty stack leave eight entries, and the ninth has no effect on the block's state. -/
def Obligations.NinthPushHasNoEffect : Prop :=
  ∀ (s : State) (cs : List Command) (d : Command), s.sz.val = 0 → cs.length = 8 →
    ∃ t u, runTrace (cs.map .push) s = .next t ∧ exec (.push d) t = .next u ∧
      t.sz.val = 8 ∧ (∀ k : Fin 8, some t.stk[k] = cs[k.val]?) ∧
      { u with history := t.history } = t

/-! ## The operations of the Pulse Generator -/

/-- R106: an accepted `setup` allocates the next two slots, writes live and shadow of both, forces the line inactive,
arms the channel and returns the period slot; `HALT` and `COUNT` keep their values. -/
def Obligations.SetupProgramsTheChannel : Prop :=
  ∀ (s : State) (widthUs srcHz freqMhz : Word32) (period width : Nat), s.halt = true → s.ch.armed = false →
    s.slots.length = s.cfg.nEventSlots → periodTicksOf s.cfg srcHz freqMhz = some period →
    pulseTicksOf s.cfg srcHz widthUs = some width → width < period → s.slotsUsed + 2 ≤ s.cfg.nEventSlots →
    exec (.setup widthUs srcHz freqMhz) s = .next { s with
      out := .inactive, slotsUsed := s.slotsUsed + 2,
      slots := (s.slots.set s.slotsUsed ⟨period, period⟩).set (s.slotsUsed + 1) ⟨width, width⟩,
      ch := ⟨true, s.slotsUsed, s.slotsUsed + 1⟩,
      history := .returned (.slot s.slotsUsed) :: s.history }

/-- R106, R107, R115, R208: `setup` with invalid tick counts returns InvalidArgument, with valid ones but fewer than two
free slots ResourceExhausted, and writes nothing; on a running counter or an armed channel it is refused. -/
def Obligations.SetupRejectsOrIsRefused : Prop :=
  ∀ (s : State) (widthUs srcHz freqMhz : Word32),
    (s.halt = false ∨ s.ch.armed = true →
      exec (.setup widthUs srcHz freqMhz) s = .refused .setupOutsidePrecondition) ∧
    (s.halt = true → s.ch.armed = false →
      ((¬ ∃ period width, periodTicksOf s.cfg srcHz freqMhz = some period ∧
          pulseTicksOf s.cfg srcHz widthUs = some width ∧ width < period) →
        exec (.setup widthUs srcHz freqMhz) s =
          .next { s with history := .returned (.err .invalidArgument) :: s.history }) ∧
      (∀ period width, periodTicksOf s.cfg srcHz freqMhz = some period →
          pulseTicksOf s.cfg srcHz widthUs = some width → width < period →
          s.cfg.nEventSlots - s.slotsUsed < 2 →
        exec (.setup widthUs srcHz freqMhz) s =
          .next { s with history := .returned (.err .resourceExhausted) :: s.history }))

/-- R108: `update_frequency` through the channel's handle: accepted, it writes live and shadow of the period slot inside
the bracket and leaves the counter running from its value; a period not above the programmed pulse, or none, is
InvalidArgument and writes nothing; another handle, or an unarmed channel, is refused. -/
def Obligations.UpdateFrequencyOutcomes : Prop :=
  ∀ (s : State) (srcHz freqMhz : Word32) (slot : Nat),
    (s.ch.armed = false ∨ slot ≠ s.ch.pslot →
      exec (.updateFrequency srcHz freqMhz slot) s = .refused (.foreignHandle slot)) ∧
    (s.ch.armed = true → slot = s.ch.pslot →
      (periodTicksOf s.cfg srcHz freqMhz = none →
        exec (.updateFrequency srcHz freqMhz slot) s =
          .next { s with history := .returned (.err .invalidArgument) :: s.history }) ∧
      (∀ period width, periodTicksOf s.cfg srcHz freqMhz = some period → s.matchOf (slot + 1) = some width →
        exec (.updateFrequency srcHz freqMhz slot) s =
          if period ≤ width then .next { s with history := .returned (.err .invalidArgument) :: s.history }
          else .next { s with
            halt := false, out := .inactive, slots := s.slots.set slot ⟨period, period⟩,
            history := .returned .ok :: s.history }))

/-- R110: `update_pulse_width`, the same for the pulse-width slot, `period_slot + 1`. -/
def Obligations.UpdatePulseWidthOutcomes : Prop :=
  ∀ (s : State) (srcHz widthUs : Word32) (slot : Nat),
    (s.ch.armed = false ∨ slot ≠ s.ch.pslot →
      exec (.updatePulseWidth srcHz widthUs slot) s = .refused (.foreignHandle slot)) ∧
    (s.ch.armed = true → slot = s.ch.pslot →
      (pulseTicksOf s.cfg srcHz widthUs = none →
        exec (.updatePulseWidth srcHz widthUs slot) s =
          .next { s with history := .returned (.err .invalidArgument) :: s.history }) ∧
      (∀ period width, pulseTicksOf s.cfg srcHz widthUs = some width → s.matchOf slot = some period →
        slot + 1 < s.slots.length →
        exec (.updatePulseWidth srcHz widthUs slot) s =
          if period ≤ width then .next { s with history := .returned (.err .invalidArgument) :: s.history }
          else .next { s with
            halt := false, out := .inactive, slots := s.slots.set (slot + 1) ⟨width, width⟩,
            history := .returned .ok :: s.history }))

/-- R111: `enable` gates the counter, forces the line inactive on a stop, keeps everything else, and calling it twice
equals calling it once. -/
def Obligations.EnableGatesTheCounter : Prop :=
  ∀ s : State,
    exec (.enable true) s = .next { s with halt := false } ∧
    exec (.enable false) s = .next { s with halt := true, out := .inactive } ∧
    ∀ on, runTrace [.enable on, .enable on] s = exec (.enable on) s

/-- R102, R104, R105: the two tick counts are the exact quotients truncated, and there is none exactly where the frequency
is 0 or too high, or the count does not fit the counter. -/
def Obligations.TickCountsAreTruncatedQuotients : Prop :=
  ∀ (c : Config) (srcHz freqMhz widthUs : Word32) (clock : Nat), clock = srcHz.toNat / (c.prescale.toNat + 1) →
    (∀ p, periodTicksOf c srcHz freqMhz = some p →
      (p + 1) * freqMhz.toNat ≤ clock * 1000 ∧ clock * 1000 < (p + 2) * freqMhz.toNat ∧ p < 2 ^ c.counterW) ∧
    (periodTicksOf c srcHz freqMhz = none ↔
      freqMhz.toNat = 0 ∨ clock * 1000 < freqMhz.toNat ∨ (2 ^ c.counterW + 1) * freqMhz.toNat ≤ clock * 1000) ∧
    (∀ w, pulseTicksOf c srcHz widthUs = some w →
      w * 1000000 ≤ widthUs.toNat * clock ∧ widthUs.toNat * clock < (w + 1) * 1000000 ∧ w < 2 ^ c.counterW) ∧
    (pulseTicksOf c srcHz widthUs = none ↔ 2 ^ c.counterW * 1000000 ≤ widthUs.toNat * clock)

/-- R115: an operation of the Pulse Generator that returns an error leaves the block's state as it was. -/
def Obligations.RejectionChangesNothing : Prop :=
  ∀ (s t : State) (i : Instr) (e : Err),
    ((∃ w f h, i = .setup w f h) ∨ (∃ f h k, i = .updateFrequency f h k) ∨ ∃ f w k, i = .updatePulseWidth f w k) →
    exec i s = .next t → t.history = .returned (.err e) :: s.history →
    { t with history := s.history } = s

/-- R117: after any of the three operations returns `Ok`, the pulse is strictly below the period. -/
def Obligations.AcceptedOperationKeepsPulseBelowPeriod : Prop :=
  ∀ (s t : State) (i : Instr), s.Inv →
    ((∃ w f h, i = .setup w f h) ∨ (∃ f h k, i = .updateFrequency f h k) ∨ ∃ f w k, i = .updatePulseWidth f w k) →
    exec i s = .next t → (∀ e, t.history ≠ .returned (.err e) :: s.history) →
    t.ch.armed = true ∧ t.PulseBelowPeriod

/-- R178: the conversion answers `clamp(rpm) * 33333 div 1000`, between 83332 and 299997, and is monotone; the operation
changes no state. -/
def Obligations.RpmToMhzIsBoundedAndMonotone : Prop :=
  (∀ (s : State) (rpm : Rpm), ∃ f : Word32,
    exec (.rpmToMhz rpm) s = .next { s with history := .returned (.freqMhz f) :: s.history } ∧
    f.toNat = clamp rpm.toNat 2500 9000 * 33333 / 1000 ∧ 83332 ≤ f.toNat ∧ f.toNat ≤ 299997) ∧
  (∀ r r' : Rpm, r.toNat ≤ r'.toNat → (rpmToMhz r).toNat ≤ (rpmToMhz r').toNat)

/-! ## The main loop, phase by phase -/

/-- R171: FETCH inspects the current command, writes `ml` only, and does not pop. -/
def Obligations.FetchSelectsTheFirstPhase : Prop :=
  ∀ s : State, s.sys = .run → s.ml = .fetch →
    exec .main s = .next { s with ml :=
      match s.current with
      | .none => .fetch
      | .increase => .i1
      | .decrease => .d1
      | .toggleOutput => .t1
      | .applyFrequency => .f1
      | .applyPulseWidth => .w1 }

/-- R170, R171 to R177: in every state that meets the invariant a MAIN step is taken, and it writes the successor phase. -/
def Obligations.MainAlwaysTakesItsPhase : Prop :=
  ∀ s : State, s.Inv → s.sys = .run → s.ml ≠ .fetch → ∃ t, exec .main s = .next t ∧ t.ml =
    match s.ml with
    | .i1 => .i2
    | .i2 => .i3
    | .d1 => .d2
    | .d2 => .d3
    | .t1 => .t2
    | .t2 => .t3
    | .t3 => .t4
    | .t4 => .t5
    | .f1 => .f2
    | .f2 => .f3
    | .f3 => .f4
    | .f4 => .f5
    | .f5 => .f6
    | .w1 => .w2
    | _ => .fetch

/-- R30, R145, R170, R207, R231: outside RUN no agent acts: the interrupt events and the timer event have no effect, and
no MAIN step and no command's step is enabled: it is refused before boot and a fault in `HALTED`. -/
def Obligations.NoAgentActsOutsideRun : Prop :=
  ∀ (s : State) (i : Instr),
    (s.sys ≠ .run → i.format = .evt → i ≠ .main → exec i s = .next s) ∧
    (i = .main ∨ i.format = .cmd →
      (s.sys = .unset → exec i s = .refused .beforeBoot) ∧
      (∀ e, s.sys = .halted e → exec i s = .fault (.halted e)))

/-- R171: which command is serviced is decided at FETCH alone. A command's step is the MAIN step where that command is
in service, and is refused where another is (notes/assumptions/10.md). -/
def Obligations.CommandStepIsTheMainStep : Prop :=
  ∀ (s : State) (c : Command), s.sys = .run →
    exec c.instr s = if s.inService = c then exec .main s else .refused (.notInService c)

/-- R172: with the empty stack the main loop idles: any number of MAIN steps, and the command None, change nothing. -/
def Obligations.EmptyStackIdles : Prop :=
  ∀ (s : State) (n : Nat), s.sys = .run → s.ml = .fetch → s.sz.val = 0 →
    runTrace (repeated .main n) s = .next s ∧ exec .cmdNone s = .next s ∧ service s = .next s

/-- R173, R216: the phases of Increase. A refresh stands in the history, with its snapshot. -/
def Obligations.IncreasePhases : Prop :=
  ∀ s : State, s.sys = .run →
    (s.ml = .fetch → s.current = .increase → exec .increase s = .next { s with ml := .i1 }) ∧
    (s.ml = .i1 → exec .increase s = .next { s with
      ml := .i2, cmdRpm := BitVec.ofNat 16 (clamp (s.cmdRpm.toNat + if s.fast then 10 else 1) 2500 9000) }) ∧
    (s.ml = .i2 → exec .increase s = .next { s with
      ml := .i3,
      history := .refresh .commanded ⟨s.cmdRpm, s.appRpm, decide (s.cmdRpm = s.appRpm), s.outEn⟩ :: s.history }) ∧
    (s.ml = .i3 → exec .increase s = .next { pop s with ml := .fetch })

/-- R174, R216: the phases of Decrease. -/
def Obligations.DecreasePhases : Prop :=
  ∀ s : State, s.sys = .run →
    (s.ml = .fetch → s.current = .decrease → exec .decrease s = .next { s with ml := .d1 }) ∧
    (s.ml = .d1 → exec .decrease s = .next { s with
      ml := .d2,
      cmdRpm := BitVec.ofNat 16
        (if s.cmdRpm.toNat < 2500 + (if s.fast then 10 else 1) then 2500
          else s.cmdRpm.toNat - (if s.fast then 10 else 1)) }) ∧
    (s.ml = .d2 → exec .decrease s = .next { s with
      ml := .d3,
      history := .refresh .commanded ⟨s.cmdRpm, s.appRpm, decide (s.cmdRpm = s.appRpm), s.outEn⟩ :: s.history }) ∧
    (s.ml = .d3 → exec .decrease s = .next { pop s with ml := .fetch })

/-- R175, R216: the phases of ToggleOutput. -/
def Obligations.ToggleOutputPhases : Prop :=
  ∀ s : State, s.sys = .run →
    (s.ml = .fetch → s.current = .toggleOutput → exec .toggleOutput s = .next { s with ml := .t1 }) ∧
    (s.ml = .t1 → exec .toggleOutput s = .next { s with ml := .t2, outEn := !s.outEn }) ∧
    (s.ml = .t2 → s.outEn = true → exec .toggleOutput s = .next { s with ml := .t3, halt := false }) ∧
    (s.ml = .t2 → s.outEn = false →
      exec .toggleOutput s = .next { s with ml := .t3, halt := true, out := .inactive }) ∧
    (s.ml = .t3 → exec .toggleOutput s = .next { s with
      ml := .t4,
      history := .refresh .output ⟨s.cmdRpm, s.appRpm, decide (s.cmdRpm = s.appRpm), s.outEn⟩ :: s.history }) ∧
    (s.ml = .t4 → exec .toggleOutput s = .next { pop s with ml := .t5 }) ∧
    (s.ml = .t5 → exec .toggleOutput s = .next { push .applyFrequency s with ml := .fetch })

/-- R176, R216 (C4): the phases of ApplyFrequency. F2 drops its result, and F4 sets the applied speed whatever it was. -/
def Obligations.ApplyFrequencyPhases : Prop :=
  ∀ s : State, s.sys = .run →
    (s.ml = .fetch → s.current = .applyFrequency → exec .applyFrequency s = .next { s with ml := .f1 }) ∧
    (s.ml = .f1 → exec .applyFrequency s = .next { s with
      ml := .f2, cmdRpm := BitVec.ofNat 16 (clamp s.cmdRpm.toNat 2500 9000) }) ∧
    (∀ period width, s.ml = .f2 → s.ch.armed = true →
      periodTicksOf s.cfg s.cfg.srcClockHz (rpmToMhz s.cmdRpm) = some period →
      s.matchOf (s.ch.pslot + 1) = some width →
      exec .applyFrequency s =
        if period ≤ width then .next { s with ml := .f3 }
        else .next { s with
          ml := .f3, halt := false, out := .inactive, slots := s.slots.set s.ch.pslot ⟨period, period⟩ }) ∧
    (s.ml = .f2 → s.ch.armed = true → periodTicksOf s.cfg s.cfg.srcClockHz (rpmToMhz s.cmdRpm) = none →
      exec .applyFrequency s = .next { s with ml := .f3 }) ∧
    (s.ml = .f3 → s.outEn = true → exec .applyFrequency s = .next { s with ml := .f4, halt := false }) ∧
    (s.ml = .f3 → s.outEn = false →
      exec .applyFrequency s = .next { s with ml := .f4, halt := true, out := .inactive }) ∧
    (s.ml = .f4 → exec .applyFrequency s = .next { s with ml := .f5, appRpm := s.cmdRpm }) ∧
    (s.ml = .f5 → exec .applyFrequency s = .next { s with
      ml := .f6,
      history := .refresh .applied ⟨s.cmdRpm, s.appRpm, decide (s.cmdRpm = s.appRpm), s.outEn⟩ :: s.history }) ∧
    (s.ml = .f6 → exec .applyFrequency s = .next { pop s with ml := .fetch })

/-- R177: the phases of ApplyPulseWidth. W1 drops its result and, accepted, leaves the counter running whatever `out_en`
is (R241). -/
def Obligations.ApplyPulseWidthPhases : Prop :=
  ∀ s : State, s.sys = .run →
    (s.ml = .fetch → s.current = .applyPulseWidth → exec .applyPulseWidth s = .next { s with ml := .w1 }) ∧
    (∀ period width, s.ml = .w1 → s.ch.armed = true →
      pulseTicksOf s.cfg s.cfg.srcClockHz 2000#32 = some width → s.matchOf s.ch.pslot = some period →
      s.ch.pslot + 1 < s.slots.length →
      exec .applyPulseWidth s =
        if period ≤ width then .next { s with ml := .w2 }
        else .next { s with
          ml := .w2, halt := false, out := .inactive, slots := s.slots.set (s.ch.pslot + 1) ⟨width, width⟩ }) ∧
    (s.ml = .w1 → s.ch.armed = true → pulseTicksOf s.cfg s.cfg.srcClockHz 2000#32 = none →
      exec .applyPulseWidth s = .next { s with ml := .w2 }) ∧
    (s.ml = .w2 → exec .applyPulseWidth s = .next { pop s with ml := .fetch })

/-! ## Whole services -/

/-- R173, R182: with no step of another agent in between, Increase takes four MAIN steps, whose effect on the block's
state is the raised speed and the entry popped. -/
def Obligations.IncreaseService : Prop :=
  ∀ s : State, s.sys = .run → s.ml = .fetch → s.current = .increase →
    ∃ t, service s = .next t ∧ runTrace (repeated .main 4) s = .next t ∧ t.sz.val + 1 = s.sz.val ∧
      t = { s with
        cmdRpm := BitVec.ofNat 16 (clamp (s.cmdRpm.toNat + if s.fast then 10 else 1) 2500 9000),
        sz := t.sz, history := t.history }

/-- R174, R182: the same for Decrease, as `clamp(cmd_rpm - step, 2500, 9000)` of a speed in range. -/
def Obligations.DecreaseService : Prop :=
  ∀ s : State, s.sys = .run → s.ml = .fetch → s.current = .decrease → s.cmdRpm.toNat ≤ 9000 →
    ∃ t, service s = .next t ∧ runTrace (repeated .main 4) s = .next t ∧ t.sz.val + 1 = s.sz.val ∧
      t = { s with
        cmdRpm := BitVec.ofNat 16 (clamp (s.cmdRpm.toNat - if s.fast then 10 else 1) 2500 9000),
        sz := t.sz, history := t.history }

/-- R175, R182: the service of ToggleOutput flips the output, starts or stops the counter, and leaves ApplyFrequency in
the place of its own entry. -/
def Obligations.ToggleOutputService : Prop :=
  ∀ s : State, s.sys = .run → s.ml = .fetch → s.current = .toggleOutput →
    ∃ t, service s = .next t ∧ runTrace (repeated .main 6) s = .next t ∧ t.current = .applyFrequency ∧
      (∀ k : Fin 8, k.val + 1 ≠ s.sz.val → t.stk[k] = s.stk[k]) ∧
      t = { s with
        outEn := !s.outEn, halt := s.outEn, out := if s.outEn then .inactive else s.out,
        stk := t.stk, history := t.history }

/-- R176, R181, R182, R252: the service of ApplyFrequency. Accepted or rejected, the applied speed becomes the clamped
commanded speed, so the match indicator shows a match, and the run state is the output-enabled flag's. -/
def Obligations.ApplyFrequencyService : Prop :=
  ∀ (s : State) (width : Nat), s.sys = .run → s.ml = .fetch → s.current = .applyFrequency → s.ch.armed = true →
    s.matchOf (s.ch.pslot + 1) = some width →
    ∃ t, service s = .next t ∧ runTrace (repeated .main 7) s = .next t ∧ t.sz.val + 1 = s.sz.val ∧
      t.appRpm.toNat = clamp s.cmdRpm.toNat 2500 9000 ∧ t.matched = true ∧ t.halt = !s.outEn ∧
      t = { s with
        cmdRpm := t.appRpm, appRpm := t.appRpm, halt := t.halt, out := t.out, slots := t.slots,
        sz := t.sz, history := t.history } ∧
      (∀ period, periodTicksOf s.cfg s.cfg.srcClockHz (rpmToMhz s.cmdRpm) = some period → width < period →
        t.slots = s.slots.set s.ch.pslot ⟨period, period⟩ ∧ t.out = .inactive) ∧
      ((∀ period, periodTicksOf s.cfg s.cfg.srcClockHz (rpmToMhz s.cmdRpm) = some period → period ≤ width) →
        t.slots = s.slots ∧ t.out = if s.outEn then s.out else .inactive)

/-- R89: DRAIN comes to the quiescent point. With no other agent's step in between, at most two services per entry empty
a stack without `None`. -/
def Obligations.DrainEmptiesTheStack : Prop :=
  ∀ s : State, s.Inv → s.NoNoneOnStack → s.sys = .run → s.ml = .fetch →
    ∃ t, drain (2 * s.sz.val) s = .next t ∧ t.ml = .fetch ∧ t.sz.val = 0

/-- R243: a command pushed by the button between fetch and pop is the entry that the pop removes; the command in service
stays on the stack and is current again. -/
def Obligations.PushBetweenFetchAndPopIsLost : Prop :=
  ∀ (s t u : State), s.sys = .run → (s.ml = .i3 ∨ s.ml = .d3 ∨ s.ml = .f6 ∨ s.ml = .w2) →
    s.gateLast + 15 < s.now → s.sz.val < 8 →
    exec .btn s = .next t → exec .main t = .next u →
    u.ml = .fetch ∧ u.sz = s.sz ∧ u.current = s.current ∧ (∀ k : Fin 8, k.val < s.sz.val → u.stk[k] = s.stk[k])

/-! ## Frames: who touches what (R43) -/

/-- R43, R145: an interrupt handler touches `now`, `gate_last`, `fast`, the stack and its size, and nothing else of the
block; TICK alone touches `now`, and nothing else does it touch; SW alone touches `fast`. -/
def Obligations.HandlersTouchSharedStateOnly : Prop :=
  ∀ (s t : State) (i : Instr), i.format = .evt → i ≠ .main → i ≠ .tmr → exec i s = .next t →
    t = { s with
      now := t.now, gateLast := t.gateLast, fast := t.fast, stk := t.stk, sz := t.sz, history := t.history } ∧
    (i ≠ .tick → t.now = s.now) ∧ (i = .tick → t = { s with now := t.now }) ∧
    ((∀ d, i ≠ .sw d) → t.fast = s.fast)

/-- R43: a TMR step touches `COUNT`, `OUT` and, by the reload, the match registers, and nothing else. -/
def Obligations.TimerTouchesTimerOnly : Prop :=
  ∀ s t : State, exec .tmr s = .next t → t = { s with count := t.count, out := t.out, slots := t.slots } ∧
    ((∀ m ∈ s.slots, m.live = m.reload) → t.slots = s.slots)

/-- R43, R211: a MAIN step, and so a command's step, touches neither `now`, `gate_last`, `fast`, `COUNT`,
`slots_used` nor `ch`; `app_rpm` is written in F4 alone, `out_en` in T1 alone, `cmd_rpm` in I1, D1 and F1, the match
registers in F2 and W1, `HALT` and `OUT` in T2, F2, F3 and W1, entries in T5, the size in T5 and the pop phases. -/
def Obligations.MainTouchesByPhase : Prop :=
  ∀ (s t : State) (i : Instr), (i = .main ∨ i.format = .cmd) → exec i s = .next t →
    t = { s with
      cmdRpm := t.cmdRpm, appRpm := t.appRpm, outEn := t.outEn, ml := t.ml, stk := t.stk, sz := t.sz,
      halt := t.halt, slots := t.slots, out := t.out, history := t.history } ∧
    (s.ml ≠ .f4 → t.appRpm = s.appRpm) ∧ (s.ml ≠ .t1 → t.outEn = s.outEn) ∧
    (s.ml ∉ [.i1, .d1, .f1] → t.cmdRpm = s.cmdRpm) ∧ (s.ml ∉ [.f2, .w1] → t.slots = s.slots) ∧
    (s.ml ∉ [.t2, .f2, .f3, .w1] → t.halt = s.halt ∧ t.out = s.out) ∧ (s.ml ≠ .t5 → t.stk = s.stk) ∧
    (s.ml ∉ [.i3, .d3, .t4, .t5, .f6, .w2] → t.sz = s.sz) ∧
    (s.ml ∉ [.i2, .d2, .t3, .t5, .f5] → t.history = s.history)

/-- R106, R108, R110, R140, R141, R143, R178 ("State written"): the frames of the operations. -/
def Obligations.OperationsTouchWhatTheyName : Prop :=
  ∀ (s t : State) (i : Instr), exec i s = .next t →
    ((∃ w f h, i = .setup w f h) → t = { s with
      slotsUsed := t.slotsUsed, out := t.out, slots := t.slots, ch := t.ch, history := t.history } ∧
      ∀ k, k ≠ s.slotsUsed → k ≠ s.slotsUsed + 1 → t.slots[k]? = s.slots[k]?) ∧
    ((∃ f h k, i = .updateFrequency f h k) → t = { s with
      halt := t.halt, out := t.out, slots := t.slots, history := t.history } ∧
      ∀ k, k ≠ s.ch.pslot → t.slots[k]? = s.slots[k]?) ∧
    ((∃ f w k, i = .updatePulseWidth f w k) → t = { s with
      halt := t.halt, out := t.out, slots := t.slots, history := t.history } ∧
      ∀ k, k ≠ s.ch.pslot + 1 → t.slots[k]? = s.slots[k]?) ∧
    ((∃ on, i = .enable on) → t = { s with halt := t.halt, out := t.out }) ∧
    ((∃ c, i = .push c) → t = { s with stk := t.stk, sz := t.sz, history := t.history } ∧
      ∀ k : Fin 8, k.val ≠ s.sz.val → t.stk[k] = s.stk[k]) ∧
    (i = .pop → t = { s with sz := t.sz }) ∧
    ((∃ r, i = .rpmToMhz r) → t = { s with history := t.history }) ∧
    (i = .gateAccept → t = { s with gateLast := t.gateLast, history := t.history })

/-- R20, R30: no instruction writes `sys`, the configuration, or what the environment has in store. -/
def Obligations.NoInstructionWritesSysOrConfiguration : Prop :=
  ∀ (s t : State) (i : Instr), exec i s = .next t → t.sys = s.sys ∧ t.cfg = s.cfg ∧ t.trace = s.trace

/-! ## Invariants -/

/-- R21, R23, R24, R33, R35, R36, R37, R39: every step keeps the invariant, whatever the trace holds. -/
def Obligations.StepKeepsTheInvariant : Prop :=
  ∀ s t : State, s.Inv → step s = .next t → t.Inv

/-- The reset state of every configuration in range meets the invariant (R44). -/
def Obligations.ResetMeetsTheInvariant : Prop :=
  ∀ c : Config, c.InRange → (State.resetOf c).Inv ∧ (State.resetOf c).NoNoneOnStack

/-- R32, second invariant: no valid entry is ever `None`, if the trace's next word does not itself push one. -/
def Obligations.StepKeepsNoneOffTheStack : Prop :=
  ∀ s t : State, s.NoNoneOnStack → (∀ ws rest, s.trace = .word ws :: rest → decodeWord ws ≠ .ok (.push .none)) →
    step s = .next t → t.NoNoneOnStack

/-- R205: no refusal is reached by the block's own rules: in a state that meets the invariant every event is a step,
but for TICK at the counter's maximum, which is the fault of R146. -/
def Obligations.EventsAreNeverRefused : Prop :=
  ∀ (s : State) (i : Instr), s.Inv → s.sys = .run → i.format = .evt →
    (∃ t, exec i s = .next t) ∨ (i = .tick ∧ s.now + 1 = 2 ^ s.cfg.tickW ∧ exec i s = .fault .tickWrap)

/-! ## Well-formed configurations -/

/-- R8: the reference configurations A and B are well formed. -/
def Obligations.ReferenceConfigurationsWellFormed : Prop :=
  Config.referenceA.WellFormed ∧ Config.referenceB.WellFormed

/-- R117, R176: in a well-formed configuration, with the pulse of the fixed width programmed, phase F2 is accepted for
every commanded speed. -/
def Obligations.WellFormedAcceptsEverySpeed : Prop :=
  ∀ s : State, s.Inv → s.cfg.WellFormed → s.sys = .run → s.ml = .f2 → s.matchOf s.ch.wslot = s.cfg.bootWidth →
    ∃ period, periodTicksOf s.cfg s.cfg.srcClockHz (rpmToMhz s.cmdRpm) = some period ∧
      exec .main s = .next { s with
        ml := .f3, halt := false, out := .inactive, slots := s.slots.set s.ch.pslot ⟨period, period⟩ }

/-- R176, R177 with R6: the block's own events leave the pulse of the fixed width programmed. -/
def Obligations.EventsKeepTheFixedPulseWidth : Prop :=
  ∀ (s t : State) (i : Instr), s.Inv → s.sys = .run → s.matchOf s.ch.wslot = s.cfg.bootWidth →
    i.format = .evt → exec i s = .next t → t.matchOf t.ch.wslot = t.cfg.bootWidth
end

