-- ==== Sys2Proof/Laws/State.lean ====
section
/-! SUPPORT. One lemma per field of State per named update: what the field is after it. None of them is a claim. -/

namespace Sys2Proof.Machine

/-! ## record -/

@[simp] theorem record_cmdRpm (o : Obs) (s : State) : (record o s).cmdRpm = s.cmdRpm := rfl
@[simp] theorem record_appRpm (o : Obs) (s : State) : (record o s).appRpm = s.appRpm := rfl
@[simp] theorem record_now (o : Obs) (s : State) : (record o s).now = s.now := rfl
@[simp] theorem record_gateLast (o : Obs) (s : State) : (record o s).gateLast = s.gateLast := rfl
@[simp] theorem record_fast (o : Obs) (s : State) : (record o s).fast = s.fast := rfl
@[simp] theorem record_outEn (o : Obs) (s : State) : (record o s).outEn = s.outEn := rfl
@[simp] theorem record_ml (o : Obs) (s : State) : (record o s).ml = s.ml := rfl
@[simp] theorem record_sys (o : Obs) (s : State) : (record o s).sys = s.sys := rfl
@[simp] theorem record_stk (o : Obs) (s : State) : (record o s).stk = s.stk := rfl
@[simp] theorem record_sz (o : Obs) (s : State) : (record o s).sz = s.sz := rfl
@[simp] theorem record_count (o : Obs) (s : State) : (record o s).count = s.count := rfl
@[simp] theorem record_halt (o : Obs) (s : State) : (record o s).halt = s.halt := rfl
@[simp] theorem record_slots (o : Obs) (s : State) : (record o s).slots = s.slots := rfl
@[simp] theorem record_slotsUsed (o : Obs) (s : State) : (record o s).slotsUsed = s.slotsUsed := rfl
@[simp] theorem record_ch (o : Obs) (s : State) : (record o s).ch = s.ch := rfl
@[simp] theorem record_out (o : Obs) (s : State) : (record o s).out = s.out := rfl
@[simp] theorem record_cfg (o : Obs) (s : State) : (record o s).cfg = s.cfg := rfl
@[simp] theorem record_trace (o : Obs) (s : State) : (record o s).trace = s.trace := rfl
@[simp] theorem record_history (o : Obs) (s : State) : (record o s).history = o :: s.history := rfl

/-! ## pop -/

@[simp] theorem pop_cmdRpm (s : State) : (pop s).cmdRpm = s.cmdRpm := rfl
@[simp] theorem pop_appRpm (s : State) : (pop s).appRpm = s.appRpm := rfl
@[simp] theorem pop_now (s : State) : (pop s).now = s.now := rfl
@[simp] theorem pop_gateLast (s : State) : (pop s).gateLast = s.gateLast := rfl
@[simp] theorem pop_fast (s : State) : (pop s).fast = s.fast := rfl
@[simp] theorem pop_outEn (s : State) : (pop s).outEn = s.outEn := rfl
@[simp] theorem pop_ml (s : State) : (pop s).ml = s.ml := rfl
@[simp] theorem pop_sys (s : State) : (pop s).sys = s.sys := rfl
@[simp] theorem pop_stk (s : State) : (pop s).stk = s.stk := rfl
@[simp] theorem pop_sz (s : State) : (pop s).sz = ⟨s.sz.val - 1, by omega⟩ := rfl
@[simp] theorem pop_count (s : State) : (pop s).count = s.count := rfl
@[simp] theorem pop_halt (s : State) : (pop s).halt = s.halt := rfl
@[simp] theorem pop_slots (s : State) : (pop s).slots = s.slots := rfl
@[simp] theorem pop_slotsUsed (s : State) : (pop s).slotsUsed = s.slotsUsed := rfl
@[simp] theorem pop_ch (s : State) : (pop s).ch = s.ch := rfl
@[simp] theorem pop_out (s : State) : (pop s).out = s.out := rfl
@[simp] theorem pop_cfg (s : State) : (pop s).cfg = s.cfg := rfl
@[simp] theorem pop_trace (s : State) : (pop s).trace = s.trace := rfl
@[simp] theorem pop_history (s : State) : (pop s).history = s.history := rfl

/-! ## stopCounter -/

@[simp] theorem stopCounter_cmdRpm (s : State) : (stopCounter s).cmdRpm = s.cmdRpm := rfl
@[simp] theorem stopCounter_appRpm (s : State) : (stopCounter s).appRpm = s.appRpm := rfl
@[simp] theorem stopCounter_now (s : State) : (stopCounter s).now = s.now := rfl
@[simp] theorem stopCounter_gateLast (s : State) : (stopCounter s).gateLast = s.gateLast := rfl
@[simp] theorem stopCounter_fast (s : State) : (stopCounter s).fast = s.fast := rfl
@[simp] theorem stopCounter_outEn (s : State) : (stopCounter s).outEn = s.outEn := rfl
@[simp] theorem stopCounter_ml (s : State) : (stopCounter s).ml = s.ml := rfl
@[simp] theorem stopCounter_sys (s : State) : (stopCounter s).sys = s.sys := rfl
@[simp] theorem stopCounter_stk (s : State) : (stopCounter s).stk = s.stk := rfl
@[simp] theorem stopCounter_sz (s : State) : (stopCounter s).sz = s.sz := rfl
@[simp] theorem stopCounter_count (s : State) : (stopCounter s).count = s.count := rfl
@[simp] theorem stopCounter_halt (s : State) : (stopCounter s).halt = true := rfl
@[simp] theorem stopCounter_slots (s : State) : (stopCounter s).slots = s.slots := rfl
@[simp] theorem stopCounter_slotsUsed (s : State) : (stopCounter s).slotsUsed = s.slotsUsed := rfl
@[simp] theorem stopCounter_ch (s : State) : (stopCounter s).ch = s.ch := rfl
@[simp] theorem stopCounter_out (s : State) : (stopCounter s).out = s.out := rfl
@[simp] theorem stopCounter_cfg (s : State) : (stopCounter s).cfg = s.cfg := rfl
@[simp] theorem stopCounter_trace (s : State) : (stopCounter s).trace = s.trace := rfl
@[simp] theorem stopCounter_history (s : State) : (stopCounter s).history = s.history := rfl

/-! ## startCounter -/

@[simp] theorem startCounter_cmdRpm (s : State) : (startCounter s).cmdRpm = s.cmdRpm := rfl
@[simp] theorem startCounter_appRpm (s : State) : (startCounter s).appRpm = s.appRpm := rfl
@[simp] theorem startCounter_now (s : State) : (startCounter s).now = s.now := rfl
@[simp] theorem startCounter_gateLast (s : State) : (startCounter s).gateLast = s.gateLast := rfl
@[simp] theorem startCounter_fast (s : State) : (startCounter s).fast = s.fast := rfl
@[simp] theorem startCounter_outEn (s : State) : (startCounter s).outEn = s.outEn := rfl
@[simp] theorem startCounter_ml (s : State) : (startCounter s).ml = s.ml := rfl
@[simp] theorem startCounter_sys (s : State) : (startCounter s).sys = s.sys := rfl
@[simp] theorem startCounter_stk (s : State) : (startCounter s).stk = s.stk := rfl
@[simp] theorem startCounter_sz (s : State) : (startCounter s).sz = s.sz := rfl
@[simp] theorem startCounter_count (s : State) : (startCounter s).count = s.count := rfl
@[simp] theorem startCounter_halt (s : State) : (startCounter s).halt = false := rfl
@[simp] theorem startCounter_slots (s : State) : (startCounter s).slots = s.slots := rfl
@[simp] theorem startCounter_slotsUsed (s : State) : (startCounter s).slotsUsed = s.slotsUsed := rfl
@[simp] theorem startCounter_ch (s : State) : (startCounter s).ch = s.ch := rfl
@[simp] theorem startCounter_out (s : State) : (startCounter s).out = s.out := rfl
@[simp] theorem startCounter_cfg (s : State) : (startCounter s).cfg = s.cfg := rfl
@[simp] theorem startCounter_trace (s : State) : (startCounter s).trace = s.trace := rfl
@[simp] theorem startCounter_history (s : State) : (startCounter s).history = s.history := rfl

/-! ## forceInactive -/

@[simp] theorem forceInactive_cmdRpm (s : State) : (forceInactive s).cmdRpm = s.cmdRpm := rfl
@[simp] theorem forceInactive_appRpm (s : State) : (forceInactive s).appRpm = s.appRpm := rfl
@[simp] theorem forceInactive_now (s : State) : (forceInactive s).now = s.now := rfl
@[simp] theorem forceInactive_gateLast (s : State) : (forceInactive s).gateLast = s.gateLast := rfl
@[simp] theorem forceInactive_fast (s : State) : (forceInactive s).fast = s.fast := rfl
@[simp] theorem forceInactive_outEn (s : State) : (forceInactive s).outEn = s.outEn := rfl
@[simp] theorem forceInactive_ml (s : State) : (forceInactive s).ml = s.ml := rfl
@[simp] theorem forceInactive_sys (s : State) : (forceInactive s).sys = s.sys := rfl
@[simp] theorem forceInactive_stk (s : State) : (forceInactive s).stk = s.stk := rfl
@[simp] theorem forceInactive_sz (s : State) : (forceInactive s).sz = s.sz := rfl
@[simp] theorem forceInactive_count (s : State) : (forceInactive s).count = s.count := rfl
@[simp] theorem forceInactive_halt (s : State) : (forceInactive s).halt = s.halt := rfl
@[simp] theorem forceInactive_slots (s : State) : (forceInactive s).slots = s.slots := rfl
@[simp] theorem forceInactive_slotsUsed (s : State) : (forceInactive s).slotsUsed = s.slotsUsed := rfl
@[simp] theorem forceInactive_ch (s : State) : (forceInactive s).ch = s.ch := rfl
@[simp] theorem forceInactive_out (s : State) : (forceInactive s).out = .inactive := rfl
@[simp] theorem forceInactive_cfg (s : State) : (forceInactive s).cfg = s.cfg := rfl
@[simp] theorem forceInactive_trace (s : State) : (forceInactive s).trace = s.trace := rfl
@[simp] theorem forceInactive_history (s : State) : (forceInactive s).history = s.history := rfl

/-! ## writeMatch -/

@[simp] theorem writeMatch_cmdRpm (k v : Nat) (s : State) : (writeMatch k v s).cmdRpm = s.cmdRpm := rfl
@[simp] theorem writeMatch_appRpm (k v : Nat) (s : State) : (writeMatch k v s).appRpm = s.appRpm := rfl
@[simp] theorem writeMatch_now (k v : Nat) (s : State) : (writeMatch k v s).now = s.now := rfl
@[simp] theorem writeMatch_gateLast (k v : Nat) (s : State) : (writeMatch k v s).gateLast = s.gateLast := rfl
@[simp] theorem writeMatch_fast (k v : Nat) (s : State) : (writeMatch k v s).fast = s.fast := rfl
@[simp] theorem writeMatch_outEn (k v : Nat) (s : State) : (writeMatch k v s).outEn = s.outEn := rfl
@[simp] theorem writeMatch_ml (k v : Nat) (s : State) : (writeMatch k v s).ml = s.ml := rfl
@[simp] theorem writeMatch_sys (k v : Nat) (s : State) : (writeMatch k v s).sys = s.sys := rfl
@[simp] theorem writeMatch_stk (k v : Nat) (s : State) : (writeMatch k v s).stk = s.stk := rfl
@[simp] theorem writeMatch_sz (k v : Nat) (s : State) : (writeMatch k v s).sz = s.sz := rfl
@[simp] theorem writeMatch_count (k v : Nat) (s : State) : (writeMatch k v s).count = s.count := rfl
@[simp] theorem writeMatch_halt (k v : Nat) (s : State) : (writeMatch k v s).halt = s.halt := rfl
@[simp] theorem writeMatch_slots (k v : Nat) (s : State) : (writeMatch k v s).slots = s.slots.set k ⟨v, v⟩ := rfl
@[simp] theorem writeMatch_slotsUsed (k v : Nat) (s : State) : (writeMatch k v s).slotsUsed = s.slotsUsed := rfl
@[simp] theorem writeMatch_ch (k v : Nat) (s : State) : (writeMatch k v s).ch = s.ch := rfl
@[simp] theorem writeMatch_out (k v : Nat) (s : State) : (writeMatch k v s).out = s.out := rfl
@[simp] theorem writeMatch_cfg (k v : Nat) (s : State) : (writeMatch k v s).cfg = s.cfg := rfl
@[simp] theorem writeMatch_trace (k v : Nat) (s : State) : (writeMatch k v s).trace = s.trace := rfl
@[simp] theorem writeMatch_history (k v : Nat) (s : State) : (writeMatch k v s).history = s.history := rfl

/-! ## bracketWrite -/

@[simp] theorem bracketWrite_cmdRpm (k v : Nat) (s : State) : (bracketWrite k v s).cmdRpm = s.cmdRpm := rfl
@[simp] theorem bracketWrite_appRpm (k v : Nat) (s : State) : (bracketWrite k v s).appRpm = s.appRpm := rfl
@[simp] theorem bracketWrite_now (k v : Nat) (s : State) : (bracketWrite k v s).now = s.now := rfl
@[simp] theorem bracketWrite_gateLast (k v : Nat) (s : State) : (bracketWrite k v s).gateLast = s.gateLast := rfl
@[simp] theorem bracketWrite_fast (k v : Nat) (s : State) : (bracketWrite k v s).fast = s.fast := rfl
@[simp] theorem bracketWrite_outEn (k v : Nat) (s : State) : (bracketWrite k v s).outEn = s.outEn := rfl
@[simp] theorem bracketWrite_ml (k v : Nat) (s : State) : (bracketWrite k v s).ml = s.ml := rfl
@[simp] theorem bracketWrite_sys (k v : Nat) (s : State) : (bracketWrite k v s).sys = s.sys := rfl
@[simp] theorem bracketWrite_stk (k v : Nat) (s : State) : (bracketWrite k v s).stk = s.stk := rfl
@[simp] theorem bracketWrite_sz (k v : Nat) (s : State) : (bracketWrite k v s).sz = s.sz := rfl
@[simp] theorem bracketWrite_count (k v : Nat) (s : State) : (bracketWrite k v s).count = s.count := rfl
@[simp] theorem bracketWrite_halt (k v : Nat) (s : State) : (bracketWrite k v s).halt = false := rfl
@[simp] theorem bracketWrite_slots (k v : Nat) (s : State) : (bracketWrite k v s).slots = s.slots.set k ⟨v, v⟩ := rfl
@[simp] theorem bracketWrite_slotsUsed (k v : Nat) (s : State) : (bracketWrite k v s).slotsUsed = s.slotsUsed := rfl
@[simp] theorem bracketWrite_ch (k v : Nat) (s : State) : (bracketWrite k v s).ch = s.ch := rfl
@[simp] theorem bracketWrite_out (k v : Nat) (s : State) : (bracketWrite k v s).out = .inactive := rfl
@[simp] theorem bracketWrite_cfg (k v : Nat) (s : State) : (bracketWrite k v s).cfg = s.cfg := rfl
@[simp] theorem bracketWrite_trace (k v : Nat) (s : State) : (bracketWrite k v s).trace = s.trace := rfl
@[simp] theorem bracketWrite_history (k v : Nat) (s : State) : (bracketWrite k v s).history = s.history := rfl

/-! ## reload -/

@[simp] theorem reload_cmdRpm (s : State) : (reload s).cmdRpm = s.cmdRpm := rfl
@[simp] theorem reload_appRpm (s : State) : (reload s).appRpm = s.appRpm := rfl
@[simp] theorem reload_now (s : State) : (reload s).now = s.now := rfl
@[simp] theorem reload_gateLast (s : State) : (reload s).gateLast = s.gateLast := rfl
@[simp] theorem reload_fast (s : State) : (reload s).fast = s.fast := rfl
@[simp] theorem reload_outEn (s : State) : (reload s).outEn = s.outEn := rfl
@[simp] theorem reload_ml (s : State) : (reload s).ml = s.ml := rfl
@[simp] theorem reload_sys (s : State) : (reload s).sys = s.sys := rfl
@[simp] theorem reload_stk (s : State) : (reload s).stk = s.stk := rfl
@[simp] theorem reload_sz (s : State) : (reload s).sz = s.sz := rfl
@[simp] theorem reload_count (s : State) : (reload s).count = s.count := rfl
@[simp] theorem reload_halt (s : State) : (reload s).halt = s.halt := rfl
@[simp] theorem reload_slots (s : State) : (reload s).slots = s.slots.map fun m => ⟨m.reload, m.reload⟩ := rfl
@[simp] theorem reload_slotsUsed (s : State) : (reload s).slotsUsed = s.slotsUsed := rfl
@[simp] theorem reload_ch (s : State) : (reload s).ch = s.ch := rfl
@[simp] theorem reload_out (s : State) : (reload s).out = s.out := rfl
@[simp] theorem reload_cfg (s : State) : (reload s).cfg = s.cfg := rfl
@[simp] theorem reload_trace (s : State) : (reload s).trace = s.trace := rfl
@[simp] theorem reload_history (s : State) : (reload s).history = s.history := rfl

/-! ## advanceCount -/

@[simp] theorem advanceCount_cmdRpm (s : State) : (advanceCount s).cmdRpm = s.cmdRpm := rfl
@[simp] theorem advanceCount_appRpm (s : State) : (advanceCount s).appRpm = s.appRpm := rfl
@[simp] theorem advanceCount_now (s : State) : (advanceCount s).now = s.now := rfl
@[simp] theorem advanceCount_gateLast (s : State) : (advanceCount s).gateLast = s.gateLast := rfl
@[simp] theorem advanceCount_fast (s : State) : (advanceCount s).fast = s.fast := rfl
@[simp] theorem advanceCount_outEn (s : State) : (advanceCount s).outEn = s.outEn := rfl
@[simp] theorem advanceCount_ml (s : State) : (advanceCount s).ml = s.ml := rfl
@[simp] theorem advanceCount_sys (s : State) : (advanceCount s).sys = s.sys := rfl
@[simp] theorem advanceCount_stk (s : State) : (advanceCount s).stk = s.stk := rfl
@[simp] theorem advanceCount_sz (s : State) : (advanceCount s).sz = s.sz := rfl
@[simp] theorem advanceCount_count (s : State) : (advanceCount s).count = (s.count + 1) % 2 ^ s.cfg.counterW := rfl
@[simp] theorem advanceCount_halt (s : State) : (advanceCount s).halt = s.halt := rfl
@[simp] theorem advanceCount_slots (s : State) : (advanceCount s).slots = s.slots := rfl
@[simp] theorem advanceCount_slotsUsed (s : State) : (advanceCount s).slotsUsed = s.slotsUsed := rfl
@[simp] theorem advanceCount_ch (s : State) : (advanceCount s).ch = s.ch := rfl
@[simp] theorem advanceCount_out (s : State) : (advanceCount s).out = s.out := rfl
@[simp] theorem advanceCount_cfg (s : State) : (advanceCount s).cfg = s.cfg := rfl
@[simp] theorem advanceCount_trace (s : State) : (advanceCount s).trace = s.trace := rfl
@[simp] theorem advanceCount_history (s : State) : (advanceCount s).history = s.history := rfl

/-! ## emitRefresh -/

@[simp] theorem emitRefresh_cmdRpm (k : RefreshKind) (s : State) : (emitRefresh k s).cmdRpm = s.cmdRpm := rfl
@[simp] theorem emitRefresh_appRpm (k : RefreshKind) (s : State) : (emitRefresh k s).appRpm = s.appRpm := rfl
@[simp] theorem emitRefresh_now (k : RefreshKind) (s : State) : (emitRefresh k s).now = s.now := rfl
@[simp] theorem emitRefresh_gateLast (k : RefreshKind) (s : State) : (emitRefresh k s).gateLast = s.gateLast := rfl
@[simp] theorem emitRefresh_fast (k : RefreshKind) (s : State) : (emitRefresh k s).fast = s.fast := rfl
@[simp] theorem emitRefresh_outEn (k : RefreshKind) (s : State) : (emitRefresh k s).outEn = s.outEn := rfl
@[simp] theorem emitRefresh_ml (k : RefreshKind) (s : State) : (emitRefresh k s).ml = s.ml := rfl
@[simp] theorem emitRefresh_sys (k : RefreshKind) (s : State) : (emitRefresh k s).sys = s.sys := rfl
@[simp] theorem emitRefresh_stk (k : RefreshKind) (s : State) : (emitRefresh k s).stk = s.stk := rfl
@[simp] theorem emitRefresh_sz (k : RefreshKind) (s : State) : (emitRefresh k s).sz = s.sz := rfl
@[simp] theorem emitRefresh_count (k : RefreshKind) (s : State) : (emitRefresh k s).count = s.count := rfl
@[simp] theorem emitRefresh_halt (k : RefreshKind) (s : State) : (emitRefresh k s).halt = s.halt := rfl
@[simp] theorem emitRefresh_slots (k : RefreshKind) (s : State) : (emitRefresh k s).slots = s.slots := rfl
@[simp] theorem emitRefresh_slotsUsed (k : RefreshKind) (s : State) : (emitRefresh k s).slotsUsed = s.slotsUsed := rfl
@[simp] theorem emitRefresh_ch (k : RefreshKind) (s : State) : (emitRefresh k s).ch = s.ch := rfl
@[simp] theorem emitRefresh_out (k : RefreshKind) (s : State) : (emitRefresh k s).out = s.out := rfl
@[simp] theorem emitRefresh_cfg (k : RefreshKind) (s : State) : (emitRefresh k s).cfg = s.cfg := rfl
@[simp] theorem emitRefresh_trace (k : RefreshKind) (s : State) : (emitRefresh k s).trace = s.trace := rfl
@[simp] theorem emitRefresh_history (k : RefreshKind) (s : State) : (emitRefresh k s).history = .refresh k s.snapshot :: s.history := rfl

/-! ## placeWord -/

@[simp] theorem placeWord_cmdRpm (ws : List Byte) (s : State) : (placeWord ws s).cmdRpm = s.cmdRpm := rfl
@[simp] theorem placeWord_appRpm (ws : List Byte) (s : State) : (placeWord ws s).appRpm = s.appRpm := rfl
@[simp] theorem placeWord_now (ws : List Byte) (s : State) : (placeWord ws s).now = s.now := rfl
@[simp] theorem placeWord_gateLast (ws : List Byte) (s : State) : (placeWord ws s).gateLast = s.gateLast := rfl
@[simp] theorem placeWord_fast (ws : List Byte) (s : State) : (placeWord ws s).fast = s.fast := rfl
@[simp] theorem placeWord_outEn (ws : List Byte) (s : State) : (placeWord ws s).outEn = s.outEn := rfl
@[simp] theorem placeWord_ml (ws : List Byte) (s : State) : (placeWord ws s).ml = s.ml := rfl
@[simp] theorem placeWord_sys (ws : List Byte) (s : State) : (placeWord ws s).sys = s.sys := rfl
@[simp] theorem placeWord_stk (ws : List Byte) (s : State) : (placeWord ws s).stk = s.stk := rfl
@[simp] theorem placeWord_sz (ws : List Byte) (s : State) : (placeWord ws s).sz = s.sz := rfl
@[simp] theorem placeWord_count (ws : List Byte) (s : State) : (placeWord ws s).count = s.count := rfl
@[simp] theorem placeWord_halt (ws : List Byte) (s : State) : (placeWord ws s).halt = s.halt := rfl
@[simp] theorem placeWord_slots (ws : List Byte) (s : State) : (placeWord ws s).slots = s.slots := rfl
@[simp] theorem placeWord_slotsUsed (ws : List Byte) (s : State) : (placeWord ws s).slotsUsed = s.slotsUsed := rfl
@[simp] theorem placeWord_ch (ws : List Byte) (s : State) : (placeWord ws s).ch = s.ch := rfl
@[simp] theorem placeWord_out (ws : List Byte) (s : State) : (placeWord ws s).out = s.out := rfl
@[simp] theorem placeWord_cfg (ws : List Byte) (s : State) : (placeWord ws s).cfg = s.cfg := rfl
@[simp] theorem placeWord_trace (ws : List Byte) (s : State) : (placeWord ws s).trace = .word ws :: s.trace := rfl
@[simp] theorem placeWord_history (ws : List Byte) (s : State) : (placeWord ws s).history = s.history := rfl

/-! ## enable -/

@[simp] theorem enable_cmdRpm (on : Bool) (s : State) : (enable on s).cmdRpm = s.cmdRpm := by cases on <;> rfl
@[simp] theorem enable_appRpm (on : Bool) (s : State) : (enable on s).appRpm = s.appRpm := by cases on <;> rfl
@[simp] theorem enable_now (on : Bool) (s : State) : (enable on s).now = s.now := by cases on <;> rfl
@[simp] theorem enable_gateLast (on : Bool) (s : State) : (enable on s).gateLast = s.gateLast := by cases on <;> rfl
@[simp] theorem enable_fast (on : Bool) (s : State) : (enable on s).fast = s.fast := by cases on <;> rfl
@[simp] theorem enable_outEn (on : Bool) (s : State) : (enable on s).outEn = s.outEn := by cases on <;> rfl
@[simp] theorem enable_ml (on : Bool) (s : State) : (enable on s).ml = s.ml := by cases on <;> rfl
@[simp] theorem enable_sys (on : Bool) (s : State) : (enable on s).sys = s.sys := by cases on <;> rfl
@[simp] theorem enable_stk (on : Bool) (s : State) : (enable on s).stk = s.stk := by cases on <;> rfl
@[simp] theorem enable_sz (on : Bool) (s : State) : (enable on s).sz = s.sz := by cases on <;> rfl
@[simp] theorem enable_count (on : Bool) (s : State) : (enable on s).count = s.count := by cases on <;> rfl
@[simp] theorem enable_halt (on : Bool) (s : State) : (enable on s).halt = !on := by cases on <;> rfl
@[simp] theorem enable_slots (on : Bool) (s : State) : (enable on s).slots = s.slots := by cases on <;> rfl
@[simp] theorem enable_slotsUsed (on : Bool) (s : State) : (enable on s).slotsUsed = s.slotsUsed := by cases on <;> rfl
@[simp] theorem enable_ch (on : Bool) (s : State) : (enable on s).ch = s.ch := by cases on <;> rfl
@[simp] theorem enable_out (on : Bool) (s : State) : (enable on s).out = if on then s.out else .inactive := by
  cases on <;> rfl
@[simp] theorem enable_cfg (on : Bool) (s : State) : (enable on s).cfg = s.cfg := by cases on <;> rfl
@[simp] theorem enable_trace (on : Bool) (s : State) : (enable on s).trace = s.trace := by cases on <;> rfl
@[simp] theorem enable_history (on : Bool) (s : State) : (enable on s).history = s.history := by cases on <;> rfl

/-! ## push: the fields it never writes -/

@[simp] theorem push_cmdRpm (c : Command) (s : State) : (push c s).cmdRpm = s.cmdRpm := by unfold push; split <;> rfl
@[simp] theorem push_appRpm (c : Command) (s : State) : (push c s).appRpm = s.appRpm := by unfold push; split <;> rfl
@[simp] theorem push_now (c : Command) (s : State) : (push c s).now = s.now := by unfold push; split <;> rfl
@[simp] theorem push_gateLast (c : Command) (s : State) : (push c s).gateLast = s.gateLast := by unfold push; split <;> rfl
@[simp] theorem push_fast (c : Command) (s : State) : (push c s).fast = s.fast := by unfold push; split <;> rfl
@[simp] theorem push_outEn (c : Command) (s : State) : (push c s).outEn = s.outEn := by unfold push; split <;> rfl
@[simp] theorem push_ml (c : Command) (s : State) : (push c s).ml = s.ml := by unfold push; split <;> rfl
@[simp] theorem push_sys (c : Command) (s : State) : (push c s).sys = s.sys := by unfold push; split <;> rfl
@[simp] theorem push_count (c : Command) (s : State) : (push c s).count = s.count := by unfold push; split <;> rfl
@[simp] theorem push_halt (c : Command) (s : State) : (push c s).halt = s.halt := by unfold push; split <;> rfl
@[simp] theorem push_slots (c : Command) (s : State) : (push c s).slots = s.slots := by unfold push; split <;> rfl
@[simp] theorem push_slotsUsed (c : Command) (s : State) : (push c s).slotsUsed = s.slotsUsed := by unfold push; split <;> rfl
@[simp] theorem push_ch (c : Command) (s : State) : (push c s).ch = s.ch := by unfold push; split <;> rfl
@[simp] theorem push_out (c : Command) (s : State) : (push c s).out = s.out := by unfold push; split <;> rfl
@[simp] theorem push_cfg (c : Command) (s : State) : (push c s).cfg = s.cfg := by unfold push; split <;> rfl
@[simp] theorem push_trace (c : Command) (s : State) : (push c s).trace = s.trace := by unfold push; split <;> rfl

/-! ## assertReset -/

@[simp] theorem assertReset_cmdRpm (s : State) : (assertReset s).cmdRpm = (State.resetOf s.cfg).cmdRpm := rfl
@[simp] theorem assertReset_appRpm (s : State) : (assertReset s).appRpm = (State.resetOf s.cfg).appRpm := rfl
@[simp] theorem assertReset_now (s : State) : (assertReset s).now = (State.resetOf s.cfg).now := rfl
@[simp] theorem assertReset_gateLast (s : State) : (assertReset s).gateLast = (State.resetOf s.cfg).gateLast := rfl
@[simp] theorem assertReset_fast (s : State) : (assertReset s).fast = (State.resetOf s.cfg).fast := rfl
@[simp] theorem assertReset_outEn (s : State) : (assertReset s).outEn = (State.resetOf s.cfg).outEn := rfl
@[simp] theorem assertReset_ml (s : State) : (assertReset s).ml = (State.resetOf s.cfg).ml := rfl
@[simp] theorem assertReset_sys (s : State) : (assertReset s).sys = (State.resetOf s.cfg).sys := rfl
@[simp] theorem assertReset_stk (s : State) : (assertReset s).stk = (State.resetOf s.cfg).stk := rfl
@[simp] theorem assertReset_sz (s : State) : (assertReset s).sz = (State.resetOf s.cfg).sz := rfl
@[simp] theorem assertReset_count (s : State) : (assertReset s).count = (State.resetOf s.cfg).count := rfl
@[simp] theorem assertReset_halt (s : State) : (assertReset s).halt = (State.resetOf s.cfg).halt := rfl
@[simp] theorem assertReset_slots (s : State) : (assertReset s).slots = (State.resetOf s.cfg).slots := rfl
@[simp] theorem assertReset_slotsUsed (s : State) : (assertReset s).slotsUsed = (State.resetOf s.cfg).slotsUsed := rfl
@[simp] theorem assertReset_ch (s : State) : (assertReset s).ch = (State.resetOf s.cfg).ch := rfl
@[simp] theorem assertReset_out (s : State) : (assertReset s).out = (State.resetOf s.cfg).out := rfl
@[simp] theorem assertReset_cfg (s : State) : (assertReset s).cfg = s.cfg := rfl
@[simp] theorem assertReset_trace (s : State) : (assertReset s).trace = s.trace := rfl
@[simp] theorem assertReset_history (s : State) : (assertReset s).history = s.history := rfl

end Sys2Proof.Machine
end

