-- ==== Sys2Proof/Laws/Exec.lean ====
section
/-! SUPPORT. Which meaning exec calls for each instruction; support for case splits. -/

namespace Sys2Proof.Machine

@[simp] theorem exec_cmdNone (s : State) : exec .cmdNone s = execCmdNone s := rfl
@[simp] theorem exec_increase (s : State) : exec .increase s = execIncrease s := rfl
@[simp] theorem exec_decrease (s : State) : exec .decrease s = execDecrease s := rfl
@[simp] theorem exec_toggleOutput (s : State) : exec .toggleOutput s = execToggleOutput s := rfl
@[simp] theorem exec_applyFrequency (s : State) : exec .applyFrequency s = execApplyFrequency s := rfl
@[simp] theorem exec_applyPulseWidth (s : State) : exec .applyPulseWidth s = execApplyPulseWidth s := rfl
@[simp] theorem exec_tick (s : State) : exec .tick s = execTick s := rfl
@[simp] theorem exec_encB (a : Bool) (s : State) : exec (.encB a) s = execEncB a s := rfl
@[simp] theorem exec_btn (s : State) : exec .btn s = execBtn s := rfl
@[simp] theorem exec_sw (d : SwDir) (s : State) : exec (.sw d) s = execSw d s := rfl
@[simp] theorem exec_tmr (s : State) : exec .tmr s = execTmr s := rfl
@[simp] theorem exec_encA (s : State) : exec .encA s = execEncA s := rfl
@[simp] theorem exec_main (s : State) : exec .main s = execMain s := rfl
@[simp] theorem exec_setup (widthUs : Word32) (srcHz : Word32) (freqMhz : Word32) (s : State) : exec (.setup widthUs srcHz freqMhz) s = execSetup widthUs srcHz freqMhz s := rfl
@[simp] theorem exec_updateFrequency (srcHz : Word32) (freqMhz : Word32) (slot : Nat) (s : State) : exec (.updateFrequency srcHz freqMhz slot) s = execUpdateFrequency srcHz freqMhz slot s := rfl
@[simp] theorem exec_updatePulseWidth (srcHz : Word32) (widthUs : Word32) (slot : Nat) (s : State) : exec (.updatePulseWidth srcHz widthUs slot) s = execUpdatePulseWidth srcHz widthUs slot s := rfl
@[simp] theorem exec_enable (on : Bool) (s : State) : exec (.enable on) s = execEnable on s := rfl
@[simp] theorem exec_push (cmd : Command) (s : State) : exec (.push cmd) s = execPush cmd s := rfl
@[simp] theorem exec_pop (s : State) : exec .pop s = execPop s := rfl
@[simp] theorem exec_rpmToMhz (rpm : Rpm) (s : State) : exec (.rpmToMhz rpm) s = execRpmToMhz rpm s := rfl
@[simp] theorem exec_gateAccept (s : State) : exec .gateAccept s = execGateAccept s := rfl

end Sys2Proof.Machine
end

