-- ==== Sys2Proof/Laws/Ops.lean ====
section
/-! SUPPORT. One lemma per shared operation: everything it can do. -/

namespace Sys2Proof.Machine

/-! ## Arithmetic -/

theorem clamp_le {v lo hi : Nat} (h : lo ≤ hi) : clamp v lo hi ≤ hi := by
  simp [clamp]; omega

theorem le_clamp (v lo hi : Nat) : lo ≤ clamp v lo hi := by simp [clamp]

theorem clamp_of_mem {v lo hi : Nat} (h₁ : lo ≤ v) (h₂ : v ≤ hi) : clamp v lo hi = v := by
  simp [clamp]; omega

@[simp] theorem clampRpm_toNat (v : Nat) : (clampRpm v).toNat = clamp v rpmMin rpmMax := by
  have : clamp v rpmMin rpmMax ≤ 9000 := clamp_le (by decide)
  rw [clampRpm, BitVec.toNat_ofNat]
  omega

@[simp] theorem rpmToMhz_toNat (rpm : Rpm) :
    (rpmToMhz rpm).toNat = clamp rpm.toNat rpmMin rpmMax * 33333 / 1000 := by
  have : clamp rpm.toNat rpmMin rpmMax ≤ 9000 := clamp_le (by decide)
  rw [rpmToMhz, BitVec.toNat_ofNat, scaleNum, scaleDen]
  omega

/-- What `period_ticks_of` answers (R104). -/
theorem periodTicksOf_eq_some {c : Config} {srcHz freqMhz : Word32} {p : Nat} :
    periodTicksOf c srcHz freqMhz = some p ↔
      0 < freqMhz.toNat ∧ sctClock c srcHz * 1000 / freqMhz.toNat = p + 1 ∧ p < 2 ^ c.counterW := by
  unfold periodTicksOf
  split
  · simp; omega
  · dsimp only
    generalize sctClock c srcHz * 1000 / freqMhz.toNat = q
    split
    · simp; omega
    · split
      · simp; omega
      · simp; omega

/-- What `pulse_ticks_of` answers (R105). -/
theorem pulseTicksOf_eq_some {c : Config} {srcHz widthUs : Word32} {w : Nat} :
    pulseTicksOf c srcHz widthUs = some w ↔
      widthUs.toNat * sctClock c srcHz / 1000000 = w ∧ w < 2 ^ c.counterW := by
  unfold pulseTicksOf
  dsimp only
  split
  · simp; omega
  · simp; omega

/-! ## The stack -/

theorem current_of_empty {s : State} (h : s.sz.val = 0) : s.current = .none := by
  simp [State.current, h]

theorem current_of_nonempty {s : State} (h : 0 < s.sz.val) :
    s.current = s.stk[s.sz.val - 1]'(by omega) := by
  have : s.sz.val ≠ 0 := by omega
  simp [State.current, this]

theorem push_of_full {s : State} (c : Command) (h : s.sz.val = 8) : push c s = record (.dropped c) s := by
  simp [push, h]

theorem push_sz_of_room {s : State} (c : Command) (h : s.sz.val < 8) :
    (push c s).sz.val = s.sz.val + 1 := by
  simp [push, h]

theorem push_stk_of_room {s : State} (c : Command) (h : s.sz.val < 8) :
    (push c s).stk = s.stk.set s.sz.val c h := by
  simp [push, h]

theorem push_history_of_room {s : State} (c : Command) (h : s.sz.val < 8) :
    (push c s).history = s.history := by
  simp [push, h]

/-- Everything a push with room can do: the entry above the top, and nothing else (R140). -/
theorem push_eq_of_room {s : State} (c : Command) (h : s.sz.val < 8) :
    push c s = { s with stk := s.stk.set s.sz.val c h, sz := (push c s).sz } := by
  simp [push, h]

theorem push_current_of_room {s : State} (c : Command) (h : s.sz.val < 8) : (push c s).current = c := by
  have hsz : (push c s).sz.val = s.sz.val + 1 := push_sz_of_room c h
  rw [current_of_nonempty (by omega)]
  simp [hsz, push_stk_of_room c h]

@[simp] theorem pop_sz_val (s : State) : (pop s).sz.val = s.sz.val - 1 := rfl

/-! ## The gate -/

theorem gateAccept_of_open {s : State} (h : s.gateLast + 15 < s.now) :
    gateAccept s = ({ s with gateLast := s.now }, true) := by
  simp [gateAccept, State.gateOpen, guardTicks, h]

theorem gateAccept_of_closed {s : State} (h : s.now ≤ s.gateLast + 15) : gateAccept s = (s, false) := by
  have : ¬ s.gateLast + 15 < s.now := by omega
  simp [gateAccept, State.gateOpen, guardTicks, this]

theorem onAcceptedEdge_of_open {s : State} (k : State → State) (hr : s.sys = .run)
    (h : s.gateLast + 15 < s.now) : onAcceptedEdge s k = k { s with gateLast := s.now } := by
  simp [onAcceptedEdge, hr, gateAccept_of_open h]

theorem onAcceptedEdge_of_closed {s : State} (k : State → State) (h : s.now ≤ s.gateLast + 15) :
    onAcceptedEdge s k = s := by
  simp [onAcceptedEdge, gateAccept_of_closed h]

theorem onAcceptedEdge_of_not_run {s : State} (k : State → State) (h : s.sys ≠ .run) :
    onAcceptedEdge s k = s := by
  simp [onAcceptedEdge, h]

/-- Everything an input handler can do (R145). -/
theorem onAcceptedEdge_cases (s : State) (k : State → State) :
    (s.sys = .run ∧ s.gateLast + 15 < s.now ∧ onAcceptedEdge s k = k { s with gateLast := s.now }) ∨
      onAcceptedEdge s k = s := by
  by_cases hr : s.sys = .run
  · by_cases h : s.gateLast + 15 < s.now
    · exact .inl ⟨hr, h, onAcceptedEdge_of_open k hr h⟩
    · exact .inr (onAcceptedEdge_of_closed k (by omega))
  · exact .inr (onAcceptedEdge_of_not_run k hr)

/-! ## Slots -/

theorem matchOf_eq_some {s : State} {k v : Nat} :
    s.matchOf k = some v ↔ ∃ m, s.slots[k]? = some m ∧ m.live = v := by
  simp [State.matchOf]

theorem matchOf_of_lt {s : State} {k : Nat} (h : k < s.slots.length) :
    s.matchOf k = some (s.slots[k]).live := by
  simp [State.matchOf, h]

theorem matchOf_lt {s : State} {k v : Nat} (h : s.matchOf k = some v) : k < s.slots.length := by
  by_contra hk
  simp [State.matchOf, List.getElem?_eq_none (Nat.le_of_not_lt hk)] at h

/-- The live register depends on the slots alone. -/
theorem matchOf_congr {s t : State} (h : s.slots = t.slots) (k : Nat) : s.matchOf k = t.matchOf k := by
  simp [State.matchOf, h]

@[simp] theorem matchOf_record (o : Obs) (s : State) (k : Nat) : (record o s).matchOf k = s.matchOf k := rfl

@[simp] theorem matchOf_pop (s : State) (k : Nat) : (pop s).matchOf k = s.matchOf k := rfl

@[simp] theorem matchOf_push (c : Command) (s : State) (k : Nat) : (push c s).matchOf k = s.matchOf k :=
  matchOf_congr (push_slots c s) k

@[simp] theorem matchOf_enable (on : Bool) (s : State) (k : Nat) : (enable on s).matchOf k = s.matchOf k :=
  matchOf_congr (enable_slots on s) k

@[simp] theorem matchOf_emitRefresh (kind : RefreshKind) (s : State) (k : Nat) :
    (emitRefresh kind s).matchOf k = s.matchOf k := rfl

theorem matchOf_writeMatch {s : State} (k v j : Nat) (h : k < s.slots.length) :
    (writeMatch k v s).matchOf j = if j = k then some v else s.matchOf j := by
  simp only [State.matchOf, writeMatch_slots, List.getElem?_set]
  by_cases hj : k = j
  · subst hj; simp [h]
  · simp [hj, Ne.symm hj]

theorem matchOf_bracketWrite {s : State} (k v j : Nat) (h : k < s.slots.length) :
    (bracketWrite k v s).matchOf j = if j = k then some v else s.matchOf j := by
  simpa [State.matchOf] using matchOf_writeMatch k v j h

/-- Where live and shadow are equal, the reload changes nothing (R113). -/
theorem reload_eq_self {s : State} (h : ∀ m ∈ s.slots, m.live = m.reload) : reload s = s := by
  have : (s.slots.map fun m => (⟨m.reload, m.reload⟩ : MatchPair)) = s.slots := by
    conv_rhs => rw [← List.map_id s.slots]
    refine List.map_congr_left fun m hm => ?_
    have := h m hm
    cases m
    simp_all
  simp [reload, this]

/-! ## Outcomes -/

@[simp] theorem whenRunning_run {s : State} (k : Exec) (h : s.sys = .run) : whenRunning s k = k := by
  simp [whenRunning, h]

theorem whenRunning_next {s t : State} {k : Exec} (h : whenRunning s k = .next t) :
    s.sys = .run ∧ k = .next t := by
  unfold whenRunning at h
  split at h <;> simp_all

theorem andThen_next {c : Call} {k : State → Returned → State} {t : State} (h : andThen c k = .next t) :
    ∃ u r, c = .next (u, r) ∧ t = k u r := by
  unfold andThen at h
  split at h <;> simp_all

/-! ## The Pulse Generator -/

/-- Everything `setup` can answer (R106). -/
theorem callSetup_next {widthUs srcHz freqMhz : Word32} {s t : State} {r : Returned}
    (h : callSetup widthUs srcHz freqMhz s = .next (t, r)) :
    s.halt = true ∧ s.ch.armed = false ∧
      ((t = s ∧ ∃ e, r = .err e) ∨
        ∃ period width, periodTicksOf s.cfg srcHz freqMhz = some period ∧
          pulseTicksOf s.cfg srcHz widthUs = some width ∧ width < period ∧
          s.slotsUsed + 2 ≤ s.cfg.nEventSlots ∧ s.slotsUsed + 1 < s.slots.length ∧ r = .slot s.slotsUsed ∧
          t = { s with
            slotsUsed := s.slotsUsed + 2, out := .inactive,
            slots := (s.slots.set s.slotsUsed ⟨period, period⟩).set (s.slotsUsed + 1) ⟨width, width⟩,
            ch := ⟨true, s.slotsUsed, s.slotsUsed + 1⟩ }) := by
  unfold callSetup at h
  split at h
  · simp at h
  · rename_i hpre
    simp only [not_or, Bool.not_eq_false, Bool.not_eq_true] at hpre
    refine ⟨hpre.1, hpre.2, ?_⟩
    split at h
    · simp only [Host.Outcome.next.injEq, Prod.mk.injEq] at h
      exact .inl ⟨h.1.symm, _, h.2.symm⟩
    · rename_i period hp
      split at h
      · simp only [Host.Outcome.next.injEq, Prod.mk.injEq] at h
        exact .inl ⟨h.1.symm, _, h.2.symm⟩
      · rename_i width hw
        split at h
        · simp only [Host.Outcome.next.injEq, Prod.mk.injEq] at h
          exact .inl ⟨h.1.symm, _, h.2.symm⟩
        · split at h
          · simp only [Host.Outcome.next.injEq, Prod.mk.injEq] at h
            exact .inl ⟨h.1.symm, _, h.2.symm⟩
          · rename_i hlt hfree
            dsimp only at h
            split at h
            · rename_i hslot
              simp only [Host.Outcome.next.injEq, Prod.mk.injEq] at h
              simp only [slotsPerChannel, State.hasSlot, decide_eq_true_eq] at hfree hslot
              exact .inr ⟨period, width, hp, hw, by omega, by omega, hslot, h.2.symm, h.1.symm⟩
            · simp at h

/-- Everything `update_frequency` can answer (R108). -/
theorem callUpdateFrequency_next {srcHz freqMhz : Word32} {slot : Nat} {s t : State} {r : Returned}
    (h : callUpdateFrequency srcHz freqMhz slot s = .next (t, r)) :
    s.ch.armed = true ∧ slot = s.ch.pslot ∧
      ((t = s ∧ r = .err .invalidArgument) ∨
        ∃ period width, periodTicksOf s.cfg srcHz freqMhz = some period ∧
          s.matchOf (slot + 1) = some width ∧ width < period ∧ r = .ok ∧ t = bracketWrite slot period s) := by
  unfold callUpdateFrequency at h
  split at h
  · rename_i hok
    simp only [State.handleOk, Bool.and_eq_true, decide_eq_true_eq] at hok
    refine ⟨hok.1, hok.2, ?_⟩
    split at h
    · simp only [Host.Outcome.next.injEq, Prod.mk.injEq] at h
      exact .inl ⟨h.1.symm, h.2.symm⟩
    · rename_i period hp
      split at h
      · simp at h
      · rename_i width hw
        split at h
        · simp only [Host.Outcome.next.injEq, Prod.mk.injEq] at h
          exact .inl ⟨h.1.symm, h.2.symm⟩
        · simp only [Host.Outcome.next.injEq, Prod.mk.injEq] at h
          exact .inr ⟨period, width, hp, hw, by omega, h.2.symm, h.1.symm⟩
  · simp at h

/-- Everything `update_pulse_width` can answer (R110). -/
theorem callUpdatePulseWidth_next {srcHz widthUs : Word32} {slot : Nat} {s t : State} {r : Returned}
    (h : callUpdatePulseWidth srcHz widthUs slot s = .next (t, r)) :
    s.ch.armed = true ∧ slot = s.ch.pslot ∧
      ((t = s ∧ r = .err .invalidArgument) ∨
        ∃ period width, pulseTicksOf s.cfg srcHz widthUs = some width ∧
          s.matchOf slot = some period ∧ width < period ∧ slot + 1 < s.slots.length ∧ r = .ok ∧
          t = bracketWrite (slot + 1) width s) := by
  unfold callUpdatePulseWidth at h
  split at h
  · rename_i hok
    simp only [State.handleOk, Bool.and_eq_true, decide_eq_true_eq] at hok
    refine ⟨hok.1, hok.2, ?_⟩
    split at h
    · simp only [Host.Outcome.next.injEq, Prod.mk.injEq] at h
      exact .inl ⟨h.1.symm, h.2.symm⟩
    · rename_i width hw
      split at h
      · simp at h
      · rename_i period hp
        split at h
        · simp only [Host.Outcome.next.injEq, Prod.mk.injEq] at h
          exact .inl ⟨h.1.symm, h.2.symm⟩
        · split at h
          · rename_i hslot
            simp only [Host.Outcome.next.injEq, Prod.mk.injEq] at h
            simp only [State.hasSlot, decide_eq_true_eq] at hslot
            exact .inr ⟨period, width, hw, hp, by omega, hslot, h.2.symm, h.1.symm⟩
          · simp at h
  · simp at h

/-- Everything a tick of a running timer can do (R112). -/
theorem timerTick_next {s t : State} (h : timerTick s = .next t) :
    (s.ch.armed = true ∧ s.matchOf s.ch.pslot = some s.count ∧
        t = reload { s with out := .active, count := 0 }) ∨
      (s.ch.armed = true ∧ s.matchOf s.ch.wslot = some s.count ∧ s.matchOf s.ch.pslot ≠ some s.count ∧
        t = advanceCount (forceInactive s)) ∨
      ((s.ch.armed = true → s.matchOf s.ch.pslot ≠ some s.count ∧ s.matchOf s.ch.wslot ≠ some s.count) ∧
        t = advanceCount s) := by
  unfold timerTick at h
  split at h
  · rename_i ha
    split at h
    · simp at h
    · rename_i period hp
      split at h
      · rename_i hc
        simp only [Host.Outcome.next.injEq] at h
        exact .inl ⟨ha, by rw [hp, hc], h.symm⟩
      · rename_i hc
        have hne : s.matchOf s.ch.pslot ≠ some s.count := by rw [hp]; simpa using Ne.symm hc
        split at h
        · simp at h
        · rename_i width hw
          split at h
          · rename_i hcw
            simp only [Host.Outcome.next.injEq] at h
            exact .inr (.inl ⟨ha, by rw [hw, hcw], hne, h.symm⟩)
          · rename_i hcw
            simp only [Host.Outcome.next.injEq] at h
            exact .inr (.inr ⟨fun _ => ⟨hne, by rw [hw]; simpa using Ne.symm hcw⟩, h.symm⟩)
  · rename_i ha
    simp only [Host.Outcome.next.injEq] at h
    exact .inr (.inr ⟨fun hh => absurd hh ha, h.symm⟩)

/-! ## The main loop -/

/-- Everything a MAIN phase can do: the pure phases answer their state, F2 and W1 what their operation gives. -/
theorem runPhase_next {s t : State} (h : runPhase s = .next t) :
    (s.ml = .fetch ∧ t = phaseFetch s) ∨ (s.ml = .i1 ∧ t = phaseI1 s) ∨ (s.ml = .i2 ∧ t = phaseI2 s) ∨
    (s.ml = .i3 ∧ t = phaseI3 s) ∨ (s.ml = .d1 ∧ t = phaseD1 s) ∨ (s.ml = .d2 ∧ t = phaseD2 s) ∨
    (s.ml = .d3 ∧ t = phaseD3 s) ∨ (s.ml = .t1 ∧ t = phaseT1 s) ∨ (s.ml = .t2 ∧ t = phaseT2 s) ∨
    (s.ml = .t3 ∧ t = phaseT3 s) ∨ (s.ml = .t4 ∧ t = phaseT4 s) ∨ (s.ml = .t5 ∧ t = phaseT5 s) ∨
    (s.ml = .f1 ∧ t = phaseF1 s) ∨ (s.ml = .f2 ∧ phaseF2 s = .next t) ∨ (s.ml = .f3 ∧ t = phaseF3 s) ∨
    (s.ml = .f4 ∧ t = phaseF4 s) ∨ (s.ml = .f5 ∧ t = phaseF5 s) ∨ (s.ml = .f6 ∧ t = phaseF6 s) ∨
    (s.ml = .w1 ∧ phaseW1 s = .next t) ∨ (s.ml = .w2 ∧ t = phaseW2 s) := by
  unfold runPhase at h
  cases hm : s.ml <;> rw [hm] at h <;> simp_all

theorem serveCommand_next {c : Command} {s t : State} (h : serveCommand c s = .next t) :
    s.sys = .run ∧ s.inService = c ∧ runPhase s = .next t := by
  obtain ⟨hr, hk⟩ := whenRunning_next h
  split at hk
  · exact ⟨hr, ‹_›, hk⟩
  · simp at hk

/-! ## What steps next -/

/-- Everything a step that answers a next state can be. -/
theorem step_next {s t : State} (h : step s = .next t) :
    (∃ rest, s.trace = .rst :: rest ∧ t = assertReset { s with trace := rest }) ∨
      (s.sys = .unset ∧ boot s = .next t) ∨
      (s.sys = .run ∧ ∃ ws rest i, s.trace = .word ws :: rest ∧ decodeWord ws = .ok i ∧
        exec i { s with trace := rest } = .next t) ∨
      (s.sys = .run ∧ s.trace = [] ∧ exec .main s = .next t) := by
  unfold step nextTurn at h
  rcases htr : s.trace with _ | ⟨item, rest⟩
  · cases hs : s.sys <;> simp_all
  · cases item with
    | rst => simp_all
    | word ws =>
      cases hs : s.sys <;> simp only [htr, hs] at h
      · simp_all
      · rcases hd : decodeWord ws with e | i <;> simp_all
      · simp_all

end Sys2Proof.Machine
end

