-- ==== Sys2Proof/Laws/PerInstr.lean ====
section
/-! SUPPORT. What holds of every instruction as syntax, one lemma per constructor. -/

namespace Sys2Proof.Laws.EncodeShape

/-- The bytes of an instruction begin with the byte that holds its format's nibble and its code, and are no more than
those of the longest instruction (notes/assumptions/3.md). -/
def Statement (i : Instr) : Prop :=
  ∃ (code : BitVec 4) (operands : List Byte),
    encode i = frame i.format code :: operands ∧ operands.length < longestInstr

theorem cmdNone : Statement .cmdNone := ⟨_, _, rfl, by decide⟩
theorem increase : Statement .increase := ⟨_, _, rfl, by decide⟩
theorem decrease : Statement .decrease := ⟨_, _, rfl, by decide⟩
theorem toggleOutput : Statement .toggleOutput := ⟨_, _, rfl, by decide⟩
theorem applyFrequency : Statement .applyFrequency := ⟨_, _, rfl, by decide⟩
theorem applyPulseWidth : Statement .applyPulseWidth := ⟨_, _, rfl, by decide⟩
theorem tick : Statement .tick := ⟨_, _, rfl, by decide⟩
theorem encB (a : Bool) : Statement (.encB a) := ⟨_, _, rfl, by decide⟩
theorem btn : Statement .btn := ⟨_, _, rfl, by decide⟩
theorem sw (d : SwDir) : Statement (.sw d) := ⟨_, _, rfl, by decide⟩
theorem tmr : Statement .tmr := ⟨_, _, rfl, by decide⟩
theorem encA : Statement .encA := ⟨_, _, rfl, by decide⟩
theorem main : Statement .main := ⟨_, _, rfl, by decide⟩
theorem setup (widthUs srcHz freqMhz : Word32) : Statement (.setup widthUs srcHz freqMhz) :=
  ⟨_, _, rfl, Nat.lt_add_one 12⟩
theorem updateFrequency (srcHz freqMhz : Word32) (slot : Nat) :
    Statement (.updateFrequency srcHz freqMhz slot) := ⟨_, _, rfl, Nat.lt_add_one 12⟩
theorem updatePulseWidth (srcHz widthUs : Word32) (slot : Nat) :
    Statement (.updatePulseWidth srcHz widthUs slot) := ⟨_, _, rfl, Nat.lt_add_one 12⟩
theorem enable (on : Bool) : Statement (.enable on) := ⟨_, _, rfl, Nat.le_add_left 2 11⟩
theorem push (cmd : Command) : Statement (.push cmd) := ⟨_, _, rfl, Nat.le_add_left 2 11⟩
theorem pop : Statement .pop := ⟨_, _, rfl, by decide⟩
theorem rpmToMhz (rpm : Rpm) : Statement (.rpmToMhz rpm) := ⟨_, _, rfl, by simp [bytes16, longestInstr]⟩
theorem gateAccept : Statement .gateAccept := ⟨_, _, rfl, by decide⟩

end Sys2Proof.Laws.EncodeShape
end

