-- ==== Sys2Proof/Tests/Slice0.lean ====
section
/-! SUPPORT. Tests with expected results from the spec's vectors (spec/95_test_vectors.md, named at each test), and for
each statement with hypotheses a named witness: a concrete state and operands that meet them. -/

namespace Sys2Proof.Machine

/-! ## Small states -/

/-- "After boot (T)" as spec/95_test_vectors.md writes it out, not as the model computes it. -/
def bootT : State :=
  { State.resetOf Config.referenceT with
    sys := .run, slots := ⟨9, 9⟩ :: ⟨2, 2⟩ :: List.replicate 14 ⟨0, 0⟩, slotsUsed := 2, ch := ⟨true, 0, 1⟩ }

/-- "After boot (A)" as spec/95_test_vectors.md writes it out. -/
def bootA : State :=
  { State.resetOf Config.referenceA with
    sys := .run, slots := ⟨208697, 208697⟩ :: ⟨96000, 96000⟩ :: List.replicate 14 ⟨0, 0⟩, slotsUsed := 2,
    ch := ⟨true, 0, 1⟩ }

/-- A state with a stack, bottom first. -/
def withStack (cs : List Command) (s : State) : State := cs.foldl (fun t c => push c t) s

/-- One field of the next state, where there is one. -/
def after {α : Type} (o : Exec) (f : State → α) : Option α :=
  match o with
  | .next t => some (f t)
  | .fault _ => none
  | .refused _ => none

/-- The valid entries of the stack, bottom first. -/
def entries (s : State) : List Command := s.stk.toList.take s.sz.val

/-! ## Well-formedness -/

theorem test_wf_refuses_slot_of_update_frequency : (Instr.updateFrequency 0#32 0#32 (2 ^ 32)).wf = false := by decide

theorem test_wf_refuses_slot_of_update_pulse_width : (Instr.updatePulseWidth 0#32 0#32 (2 ^ 32)).wf = false := by
  decide

theorem test_config_range_refuses :
    ¬ { Config.referenceA with srcClockHz := 0#32 }.InRange ∧ ¬ { Config.referenceA with counterW := 0 }.InRange ∧
    ¬ { Config.referenceA with tickW := 4 }.InRange ∧ ¬ { Config.referenceA with slotsUsedReset := 17 }.InRange := by
  decide

/-! ## Decoding: words written out from R81, R82, R83 below the model's format nibble -/

theorem test_decode_commands :
    decodeWord [0b00010000#8] = .ok .cmdNone ∧ decodeWord [0b00010001#8] = .ok .increase ∧
    decodeWord [0b00010010#8] = .ok .decrease ∧ decodeWord [0b00010011#8] = .ok .toggleOutput ∧
    decodeWord [0b00010100#8] = .ok .applyFrequency ∧ decodeWord [0b00010101#8] = .ok .applyPulseWidth := by
  refine ⟨?_, ?_, ?_, ?_, ?_, ?_⟩ <;> rfl

theorem test_decode_events :
    decodeWord [0b00000000#8] = .ok .tick ∧ decodeWord [0b00000010#8] = .ok (.encB false) ∧
    decodeWord [0b00000011#8] = .ok (.encB true) ∧ decodeWord [0b00000100#8] = .ok .btn ∧
    decodeWord [0b00000110#8] = .ok (.sw .toOff) ∧ decodeWord [0b00000111#8] = .ok (.sw .toOn) ∧
    decodeWord [0b00001000#8] = .ok .tmr ∧ decodeWord [0b00001010#8] = .ok .encA ∧
    decodeWord [0b00001100#8] = .ok .main := by
  refine ⟨?_, ?_, ?_, ?_, ?_, ?_, ?_, ?_, ?_⟩ <;> rfl

theorem test_decode_short_operations :
    decodeWord [0b00100011#8, 1#8] = .ok (.enable true) ∧ decodeWord [0b00100011#8, 0#8] = .ok (.enable false) ∧
    decodeWord [0b00100100#8, 0b011#8] = .ok (.push .toggleOutput) ∧ decodeWord [0b00100101#8] = .ok .pop ∧
    decodeWord [0b00100110#8, 0xC4#8, 0x09#8] = .ok (.rpmToMhz 2500#16) ∧
    decodeWord [0b00100111#8] = .ok .gateAccept := by
  refine ⟨?_, ?_, ?_, ?_, ?_, ?_⟩ <;> rfl

/-- 2000 = 7D0H, 48_000_000 = 2DC6C00H, 229_997 = 3826DH. -/
theorem test_decode_setup :
    decodeWord [0b00100000#8, 0xD0#8, 0x07#8, 0#8, 0#8, 0x00#8, 0x6C#8, 0xDC#8, 0x02#8, 0x6D#8, 0x82#8, 0x03#8, 0#8] =
      .ok (.setup 2000#32 48000000#32 229997#32) := rfl

theorem test_decode_update_frequency :
    decodeWord [0b00100001#8, 0x00#8, 0x6C#8, 0xDC#8, 0x02#8, 0x6D#8, 0x82#8, 0x03#8, 0#8, 5#8, 0#8, 0#8, 0#8] =
      .ok (.updateFrequency 48000000#32 229997#32 5) := rfl

theorem test_decode_update_pulse_width :
    decodeWord [0b00100010#8, 0x00#8, 0x6C#8, 0xDC#8, 0x02#8, 0xD0#8, 0x07#8, 0#8, 0#8, 0#8, 0x01#8, 0#8, 0#8] =
      .ok (.updatePulseWidth 48000000#32 2000#32 256) := rfl

/-- R86: reserved codes, and words that the framing does not know. -/
theorem test_decode_rejects :
    decodeWord [0b00000001#8] = .error (.reservedEvent 1) ∧ decodeWord [0b00001111#8] = .error (.reservedEvent 15) ∧
    decodeWord [0b00010110#8] = .error (.reservedCommand 6) ∧ decodeWord [0b00010111#8] = .error (.reservedCommand 7) ∧
    decodeWord [0b00011000#8] = .error .strayBit ∧ decodeWord [0b00110000#8] = .error (.unknownFormat 3) ∧
    decodeWord [0b00100100#8, 6#8] = .error (.reservedCommand 6) ∧ decodeWord [] = .error .empty ∧
    decodeWord [0b00100011#8] = .error .truncated ∧ decodeWord [0b00000000#8, 0#8] = .error .trailing := by
  refine ⟨?_, ?_, ?_, ?_, ?_, ?_, ?_, ?_, ?_, ?_⟩ <;> rfl

/-- R84. -/
theorem test_result_codes :
    [Res.ok, .invalidArgument, .resourceExhausted, .commandDropped].map Res.code = [0b00#2, 0b01#2, 0b10#2, 0b11#2] ∧
    ∀ c : BitVec 2, (Res.ofCode c).code = c := by decide

/-- The host's numbering: a bare event code is that event. -/
theorem test_table_word : decodeTableWord 8 0b0011 = some (.encB true) ∧ decodeTableWord 8 0b0001 = none := by decide

/-! ## Tick arithmetic -/

/-- V-PG-1. -/
theorem test_sct_clock :
    sctClock Config.referenceA 48000000#32 = 48000000 ∧ sctClock Config.referenceB 72000000#32 = 12000000 ∧
    sctClock { Config.referenceA with prescale := 2#8 } 1000#32 = 333 ∧ sctClock Config.referenceB 3#32 = 0 := by
  decide

/-- V-PG-2, V-PG-3, V-PG-4. -/
theorem test_period_ticks :
    periodTicksOf Config.referenceA 48000000#32 229997#32 = some 208697 ∧
    periodTicksOf Config.referenceB 72000000#32 83332#32 = some 144001 ∧
    periodTicksOf Config.referenceT 1000#32 1000000#32 = some 0 ∧
    periodTicksOf Config.referenceT 1000#32 1000001#32 = none ∧
    periodTicksOf Config.referenceT 1000#32 3891#32 = none ∧
    periodTicksOf Config.referenceT 1000#32 3906#32 = some 255 ∧
    periodTicksOf Config.referenceA 48000000#32 11#32 = none ∧
    periodTicksOf Config.referenceA 48000000#32 0#32 = none := by decide

/-- V-PG-5. -/
theorem test_pulse_ticks :
    pulseTicksOf Config.referenceA 48000000#32 2000#32 = some 96000 ∧
    pulseTicksOf Config.referenceT 1000#32 999#32 = some 0 ∧
    pulseTicksOf Config.referenceT 1000#32 255999#32 = some 255 ∧
    pulseTicksOf Config.referenceT 1000#32 256000#32 = none := by decide

/-! ## Reset, boot, step -/

/-- Boot of the reset state is the state that spec/95_test_vectors.md calls "after boot (A)". -/
theorem test_boot : after (step State.reset) id = some bootA := by decide

/-- V-PG-10 at boot: two slots short of one. -/
theorem test_boot_exhausted :
    after (step (State.resetOf { Config.referenceA with slotsUsedReset := 15 })) State.sys =
      some (.halted .resourceExhausted) := by decide

/-- A placed word is the very next step's, from reset too. -/
theorem test_fetch_word_runs : after (step (State.reset.withFetchWord 8 0b0000)) State.now = some 1 ∧
    after (step (State.reset.withFetchWord 8 0b00010001)) State.ml = some .i1 := by decide

theorem test_reserved_word_refused :
    step { bootT with trace := [.word [0b00000001#8]] } = .refused (.badWord (.reservedEvent 1)) := rfl

/-- R42, R217, V-MD-15: the continuous outputs; an inactive line is at level 1 (R38). -/
theorem test_outputs : bootA.outputs = ⟨1#1, 6900#16, 6900#16, true, false⟩ ∧
    ({ bootA with cmdRpm := 6901#16, out := .active } : State).outputs = ⟨0#1, 6901#16, 6900#16, false, false⟩ := by
  decide

/-! ## Events -/

/-- V-CS-17. -/
theorem test_tick : after (exec .tick { bootT with now := 15 }) State.now = some 16 := by decide

/-- V-CS-18. -/
theorem test_tick_wrap :
    exec .tick { bootT with now := 31, cfg := { Config.referenceT with tickW := 5 } } = .fault .tickWrap := rfl

/-- V-CS-12. -/
theorem test_encB_level : after (exec (.encB false) { bootT with now := 16 }) entries = some [.decrease] ∧
    after (exec (.encB true) { bootT with now := 16 }) entries = some [.increase] := by decide

/-- V-CS-15: dropped on a full stack, the gate refreshed. -/
theorem test_encB_dropped :
    after (exec (.encB true) (withStack (List.replicate 8 .increase) { bootT with now := 500 }))
      (fun t => (t.gateLast, t.sz.val)) = some (500, 8) := by decide

/-- V-CS-6. -/
theorem test_btn_closed :
    after (exec .btn { bootT with gateLast := 100, now := 115 }) (fun t => (t.gateLast, entries t)) =
      some (100, []) := by decide

/-- V-CS-7. -/
theorem test_btn_open :
    after (exec .btn { bootT with gateLast := 100, now := 116 }) (fun t => (t.gateLast, entries t)) =
      some (116, [.toggleOutput]) := by decide

/-- V-CS-13. -/
theorem test_sw :
    after (exec (.sw .toOn) { bootT with now := 16, fast := true }) (fun t => (t.fast, entries t)) = some (false, []) ∧
    after (exec (.sw .toOff) { bootT with now := 16 }) (fun t => (t.fast, entries t)) =
      some (true, [.applyFrequency]) := by decide

/-- V-CS-14. -/
theorem test_sw_closed :
    after (exec (.sw .toOn) { bootT with gateLast := 100, now := 105 }) (fun t => (t.fast, t.gateLast)) =
      some (false, 100) := by decide

/-- V-PG-18, steps 10 and 13. -/
theorem test_tmr_events :
    after (exec .tmr { bootT with halt := false, count := 9 }) (fun t => (t.count, t.out)) = some (0, .active) ∧
    after (exec .tmr { bootT with halt := false, count := 2, out := .active }) (fun t => (t.count, t.out)) =
      some (3, .inactive) := by decide

/-- V-PG-19: no step while stopped, and a wrap that is no event. -/
theorem test_tmr_wrap :
    after (exec .tmr bootT) id = some bootT ∧
    after (exec .tmr { bootT with halt := false, count := 255 }) (fun t => (t.count, t.out)) =
      some (0, .inactive) := by decide

/-- V-CS-16. -/
theorem test_encA : exec .encA { bootT with now := 16 } = .next { bootT with now := 16 } := rfl

/-- V-MD-1. -/
theorem test_main_fetch :
    after (exec .main (withStack [.increase, .applyPulseWidth] bootT)) (fun t => (t.ml, entries t)) =
      some (.w1, [.increase, .applyPulseWidth]) := by decide

/-! ## Commands, one phase each -/

/-- V-MD-2. -/
theorem test_none : after (exec .cmdNone bootA) id = some bootA := by decide

/-- V-MD-4. -/
theorem test_increase :
    after (exec .increase { bootA with ml := .i1, cmdRpm := 8995#16, fast := true }) State.cmdRpm = some 9000#16 ∧
    after (exec .increase { bootA with ml := .i1, cmdRpm := 8995#16 }) State.cmdRpm = some 8996#16 := by decide

/-- V-MD-5. -/
theorem test_decrease :
    after (exec .decrease { bootA with ml := .d1, cmdRpm := 2505#16, fast := true }) State.cmdRpm = some 2500#16 ∧
    after (exec .decrease { bootA with ml := .d1, cmdRpm := 2511#16, fast := true }) State.cmdRpm = some 2501#16 := by
  decide

/-- V-MD-7: T2 with the output just disabled. -/
theorem test_toggle_stops :
    after (exec .toggleOutput { bootA with ml := .t2, halt := false, out := .active, count := 500 })
      (fun t => (t.halt, t.out, t.count)) = some (true, .inactive, 500) := by decide

/-- V-MD-13: T5 on a full stack. -/
theorem test_toggle_dropped :
    after (exec .toggleOutput (withStack (List.replicate 8 .increase) { bootA with ml := .t5 }))
      (fun t => (t.ml, entries t)) = some (.fetch, List.replicate 8 .increase) := by decide

/-- V-MD-8: F2 at 6910. -/
theorem test_apply_frequency :
    after (exec .applyFrequency { bootA with ml := .f2, cmdRpm := 6910#16 })
      (fun t => (t.slots.take 2, t.halt, t.ml)) =
      some ([⟨208394, 208394⟩, ⟨96000, 96000⟩], false, .f3) := by decide

/-- V-MD-10: F2 rejected, and the loop goes on. -/
theorem test_apply_frequency_rejected :
    after (exec .applyFrequency { bootT with ml := .f2, cmdRpm := 9000#16 })
      (fun t => (t.slots.take 2, t.halt, t.ml)) = some ([⟨9, 9⟩, ⟨2, 2⟩], true, .f3) := by decide

/-- V-MD-11. -/
theorem test_apply_pulse_width :
    after (exec .applyPulseWidth { bootT with ml := .w1 }) (fun t => (t.slots.take 2, t.halt, t.ml)) =
      some ([⟨9, 9⟩, ⟨2, 2⟩], false, .w2) := by decide

/-! ## Operations -/

/-- V-PG-6. -/
theorem test_setup :
    after (exec (.setup 2000#32 48000000#32 229997#32) State.reset)
      (fun t => (t.slots.take 2, t.slotsUsed, t.ch, t.halt, t.history)) =
      some ([⟨208697, 208697⟩, ⟨96000, 96000⟩], 2, ⟨true, 0, 1⟩, true, [.returned (.slot 0)]) := by decide

/-- V-PG-9: a pulse of the period's length is rejected. V-PG-21: refused after boot. -/
theorem test_setup_rejects :
    after (exec (.setup 2000#32 1000#32 333333#32) (State.resetOf Config.referenceT)) id =
      some { State.resetOf Config.referenceT with history := [.returned (.err .invalidArgument)] } ∧
    exec (.setup 2000#32 1000#32 100000#32) bootT = .refused .setupOutsidePrecondition := ⟨by decide, rfl⟩

/-- V-PG-14. -/
theorem test_update_frequency :
    after (exec (.updateFrequency 1000#32 333333#32 0) bootT) id =
      some { bootT with history := [.returned (.err .invalidArgument)] } ∧
    after (exec (.updateFrequency 1000#32 250000#32 0) bootT) (fun t => (t.slots.take 2, t.halt)) =
      some ([⟨3, 3⟩, ⟨2, 2⟩], false) := by decide

/-- V-PG-22. -/
theorem test_update_frequency_refused :
    exec (.updateFrequency 1000#32 100000#32 5) bootT = .refused (.foreignHandle 5) ∧
    exec (.updateFrequency 1000#32 100000#32 0) (State.resetOf Config.referenceT) = .refused (.foreignHandle 0) :=
  ⟨rfl, rfl⟩

/-- V-PG-16. -/
theorem test_update_pulse_width :
    after (exec (.updatePulseWidth 1000#32 9000#32 0) bootT) id =
      some { bootT with history := [.returned (.err .invalidArgument)] } ∧
    after (exec (.updatePulseWidth 1000#32 8999#32 0) bootT) (fun t => (t.slots.take 2, t.halt)) =
      some ([⟨9, 9⟩, ⟨8, 8⟩], false) := by decide

/-- V-PG-17. -/
theorem test_enable :
    after (exec (.enable false) { bootT with halt := false, out := .active, count := 500 })
      (fun t => (t.halt, t.out, t.count)) = some (true, .inactive, 500) ∧
    after (exec (.enable true) { bootT with out := .inactive, count := 500 })
      (fun t => (t.halt, t.out, t.count)) = some (false, .inactive, 500) := by decide

/-- V-CS-2 and V-CS-3. -/
theorem test_push :
    after (exec (.push .toggleOutput) (withStack (List.replicate 7 .increase) bootT)) State.current =
      some .toggleOutput ∧
    after (exec (.push .toggleOutput) (withStack (List.replicate 8 .increase) bootT)) entries =
      some (List.replicate 8 .increase) := by decide

/-- V-CS-4 and V-CS-5. -/
theorem test_pop :
    after (exec .pop (withStack [.increase, .toggleOutput] bootT)) entries = some [.increase] ∧
    after (exec .pop bootT) id = some bootT := by decide

/-- V-MD-14. -/
theorem test_rpm_to_mhz :
    [2500#16, 6900#16, 9000#16, 0#16, 65535#16].map rpmToMhz =
      [83332#32, 229997#32, 299997#32, 83332#32, 299997#32] := by decide

/-- V-CS-6 and V-CS-7, called as an operation. -/
theorem test_gate_accept :
    after (exec .gateAccept { bootT with gateLast := 100, now := 115 }) (fun t => (t.gateLast, t.history)) =
      some (100, [.returned (.accepted false)]) ∧
    after (exec .gateAccept { bootT with gateLast := 100, now := 116 }) (fun t => (t.gateLast, t.history)) =
      some (116, [.returned (.accepted true)]) := by decide

/-! ## Witnesses: the hypotheses of each statement, met at the boundaries of their ranges -/

/-- `bootT` with any values that the invariant allows in the fields it bounds meets it. -/
theorem bootT_inv_with (ml : Phase) (stk : Vector Command 8) (sz : Fin 9) (now gateLast count : Nat) (halt : Bool)
    (out : Line) (trace : List Stimulus) (hn : now < 2 ^ 32) (hg : gateLast ≤ now) (hc : count < 256) :
    { bootT with
      ml := ml, stk := stk, sz := sz, now := now, gateLast := gateLast, count := count, halt := halt, out := out,
      trace := trace }.Inv where
  cfg_inRange := (by decide : Config.referenceT.InRange)
  cmdRpm_range := (by decide : rpmMin ≤ bootT.cmdRpm.toNat ∧ bootT.cmdRpm.toNat ≤ rpmMax)
  now_fits := hn
  gateLast_le_now := hg
  count_fits := hc
  slots_length := (by decide : bootT.slots.length = 16)
  slots_equal_fit := (by decide : ∀ m ∈ bootT.slots, m.live = m.reload ∧ m.live < 2 ^ 8)
  slotsUsed_le := (by decide : 2 ≤ 16)
  armed_channel := fun _ => ⟨rfl, (by decide : 1 < 2), 2, 9, rfl, rfl, by decide⟩
  run_armed := fun _ => rfl
  unset_unarmed := nofun

theorem bootT_inv : bootT.Inv :=
  bootT_inv_with bootT.ml bootT.stk bootT.sz bootT.now bootT.gateLast bootT.count bootT.halt bootT.out bootT.trace
    (by decide) (by decide) (by decide)

/-- A stack of one command other than `None` repeated. -/
theorem noNone_replicate (c : Command) (hc : c ≠ .none) (s : State) (h : s.stk = Vector.replicate 8 c) :
    s.NoNoneOnStack := by
  intro k _
  simpa [h] using hc

theorem witness_EncodeThenDecode : (Instr.updateFrequency 0#32 0#32 (2 ^ 32 - 1)).wf = true := by decide

theorem witness_ReservedCodesRejected :
    ({ bootT with trace := [.word [0#4 ++ 0b1111#4]] } : State).sys = .run ∧
    0b1111#4 ∈ [0b0001#4, 0b0101#4, 0b1001#4, 0b1011#4, 0b1101#4, 0b1110#4, 0b1111#4] := by decide

theorem witness_AssertedResetRestores : ({ bootT with trace := [.rst] } : State).trace = .rst :: [] := rfl

/-- Slots 14 and 15, the last two. -/
theorem witness_BootArmsTheChannel :
    let s := State.resetOf { Config.referenceA with slotsUsedReset := 14 }
    s.sys = .unset ∧ (∀ rest, s.trace ≠ .rst :: rest) ∧ s.halt = true ∧ s.ch.armed = false ∧
    s.slots.length = s.cfg.nEventSlots ∧
    periodTicksOf s.cfg s.cfg.srcClockHz s.cfg.setupFreqMhz = some 208697 ∧
    pulseTicksOf s.cfg s.cfg.srcClockHz 2000#32 = some 96000 ∧ 96000 < 208697 ∧
    s.slotsUsed + 2 ≤ s.cfg.nEventSlots :=
  ⟨rfl, nofun, rfl, rfl, by decide, by decide, by decide, by decide, by decide⟩

/-- The first clause with a pulse of the period's length, the second with one free slot. -/
theorem witness_FailedBootHalts :
    (let s := State.resetOf { Config.referenceT with setupFreqMhz := 333333#32 }
     s.sys = .unset ∧ s.halt = true ∧ s.ch.armed = false ∧
     ¬ ∃ period width, periodTicksOf s.cfg s.cfg.srcClockHz s.cfg.setupFreqMhz = some period ∧
        pulseTicksOf s.cfg s.cfg.srcClockHz 2000#32 = some width ∧ width < period) ∧
    (let s := State.resetOf { Config.referenceT with slotsUsedReset := 15 }
     s.sys = .unset ∧ s.halt = true ∧ s.ch.armed = false ∧
     periodTicksOf s.cfg s.cfg.srcClockHz s.cfg.setupFreqMhz = some 9 ∧
     pulseTicksOf s.cfg s.cfg.srcClockHz 2000#32 = some 2 ∧ 2 < 9 ∧ s.cfg.nEventSlots - s.slotsUsed < 2) := by
  refine ⟨⟨rfl, rfl, rfl, ?_⟩, by decide⟩
  rintro ⟨period, width, hp, hw, hlt⟩
  have ep : periodTicksOf { Config.referenceT with setupFreqMhz := 333333#32 } 1000#32 333333#32 = some 2 := by decide
  have ew : pulseTicksOf { Config.referenceT with setupFreqMhz := 333333#32 } 1000#32 2000#32 = some 2 := by decide
  have : some period = some 2 := hp.symm.trans ep
  have : some width = some 2 := hw.symm.trans ew
  simp_all

theorem witness_HaltedBlockHasNoStep :
    ({ bootT with sys := .halted .invalidArgument, trace := [.word [4#8]] } : State).sys = .halted .invalidArgument ∧
    ∀ rest, ({ bootT with trace := [.word [4#8]] } : State).trace ≠ .rst :: rest := ⟨rfl, nofun⟩

theorem witness_StepRunsDecodedInstruction :
    (({ bootT with trace := [.word [0b00000011#8]] } : State).sys = .run ∧
      decodeWord [0b00000011#8] = .ok (.encB true)) ∧
    bootT.sys = .run ∧ bootT.trace = [] := ⟨⟨rfl, rfl⟩, rfl, rfl⟩

/-- The two halves of the conditional: the last value that counts, and the one that faults. -/
theorem witness_TickCountsOrFaults :
    after (exec .tick { bootT with now := 2 ^ 32 - 2 }) State.now = some (2 ^ 32 - 1) ∧
    exec .tick { bootT with now := 2 ^ 32 - 1 } = .fault .tickWrap := ⟨by decide, rfl⟩

/-- The gate just open and just closed, in a running block: the two halves of the statements about ENC_B, BTN, SW, and
gate_accept. -/
theorem witness_gate_halves :
    (let s := { bootT with gateLast := 100, now := 116 }
     s.sys = .run ∧ s.gateLast + 15 < s.now ∧ s.sz.val < 8) ∧
    (let s := { bootT with gateLast := 100, now := 115 }
     s.sys = .run ∧ s.now ≤ s.gateLast + 15 ∧ ¬ s.gateLast + 15 < s.now) := by decide

theorem witness_EncoderEdgePushesByLevel : bootT.sys = .run := rfl

/-- The last entry with room, and the full stack. -/
theorem witness_ButtonPushesToggleOutput :
    (let s := withStack (List.replicate 7 .increase) { bootT with gateLast := 100, now := 116 }
     s.sys = .run ∧ s.gateLast + 15 < s.now ∧ s.sz.val < 8) ∧
    (let s := withStack (List.replicate 8 .increase) { bootT with gateLast := 100, now := 116 }
     s.sys = .run ∧ s.gateLast + 15 < s.now ∧ s.sz.val = 8) ∧
    ({ bootT with gateLast := 100, now := 115 } : State).now ≤ 100 + 15 ∧ State.reset.sys ≠ .run := by decide

theorem witness_SwitchEdgeFlipsFast : bootT.sys = .run := rfl

theorem witness_EncoderPhaseAHasNoEffect :
    let s := { bootT with trace := [.word [0b00001010#8]] }
    s.sys = .run ∧ s.trace = .word [0b00001010#8] :: [] := ⟨rfl, rfl⟩

/-- A button at 116, and the switch 15 ticks later. -/
theorem witness_OneGateThrottlesAllInputs :
    ∃ t, exec .btn { bootT with gateLast := 100, now := 116 } = .next t ∧ t.gateLast = 116 ∧
      (100 + 15 < 116) ∧ ({ t with now := 131 } : State).gateLast = t.gateLast ∧ 131 ≤ 116 + 15 :=
  ⟨_, rfl, rfl, by decide, rfl, by decide⟩

/-- Stopped; unarmed; armed at the period, at the pulse width and between. -/
theorem witness_TimerTickByCase :
    (bootT.sys = .run ∧ bootT.halt = true) ∧
    (let s := { bootT with halt := false, ch := ⟨false, 0, 0⟩ }
     s.sys = .run ∧ s.halt = false ∧ s.ch.armed = false) ∧
    (∀ count ∈ [9, 2, 3, 255],
     let s := { bootT with halt := false, count := count }
     s.sys = .run ∧ s.halt = false ∧ s.ch.armed = true ∧ s.matchOf s.ch.pslot = some 9 ∧
     s.matchOf s.ch.wslot = some 2) := by decide

theorem witness_WaveformOfOneCycle :
    let s := { bootT with halt := false, out := .active }
    s.sys = .run ∧ s.halt = false ∧ s.ch.armed = true ∧ s.matchOf s.ch.pslot = some 9 ∧
    s.matchOf s.ch.wslot = some 2 ∧ 2 < 9 ∧ 9 < 2 ^ s.cfg.counterW ∧ (∀ m ∈ s.slots, m.live = m.reload) ∧
    s.count = 0 ∧ s.out = .active := by decide

/-- Just above the period, and at the counter's maximum. -/
theorem witness_CountAbovePeriodWrapsFirst :
    ∀ count ∈ [10, 255], let s := { bootT with halt := false, count := count }
      s.sys = .run ∧ s.halt = false ∧ s.ch.armed = true ∧ s.matchOf s.ch.pslot = some 9 ∧
      s.matchOf s.ch.wslot = some 2 ∧ 2 < 9 ∧ 9 < s.count ∧ s.count < 2 ^ s.cfg.counterW ∧
      (∀ m ∈ s.slots, m.live = m.reload) ∧ s.out = .inactive := by decide

theorem witness_PushStoresOrDrops :
    (withStack (List.replicate 7 .increase) bootT).sz.val < 8 ∧
    (withStack (List.replicate 8 .increase) bootT).sz.val = 8 := by decide

theorem witness_PopUncoversTheEntryBeneath :
    bootT.sz.val = 0 ∧ (withStack [.increase] bootT).sz.val = 1 ∧
    (6 : Fin 8).val + 2 = (withStack (List.replicate 8 .increase) bootT).sz.val := by decide

theorem witness_PushedCommandsComeBackNewestFirst :
    (withStack [.increase] bootT).sz.val + (List.replicate 7 Command.decrease).length ≤ 8 ∧
    6 < (List.replicate 7 Command.decrease).length := by decide

theorem witness_NinthPushHasNoEffect : bootT.sz.val = 0 ∧ (List.replicate 8 Command.increase).length = 8 := by decide

theorem witness_SetupProgramsTheChannel :
    let s := State.resetOf { Config.referenceT with slotsUsedReset := 14 }
    s.halt = true ∧ s.ch.armed = false ∧ s.slots.length = s.cfg.nEventSlots ∧
    periodTicksOf s.cfg 1000#32 250000#32 = some 3 ∧ pulseTicksOf s.cfg 1000#32 2000#32 = some 2 ∧ 2 < 3 ∧
    s.slotsUsed + 2 ≤ s.cfg.nEventSlots := by decide

theorem witness_SetupRejectsOrIsRefused :
    ({ State.reset with halt := false } : State).halt = false ∧ bootT.ch.armed = true ∧
    (let s := State.resetOf { Config.referenceT with slotsUsedReset := 15 }
     s.halt = true ∧ s.ch.armed = false ∧ periodTicksOf s.cfg 1000#32 0#32 = none ∧
     periodTicksOf s.cfg 1000#32 250000#32 = some 3 ∧ pulseTicksOf s.cfg 1000#32 2000#32 = some 2 ∧ 2 < 3 ∧
     s.cfg.nEventSlots - s.slotsUsed < 2) := by decide

/-- Refused; no period; a period of the pulse's length; the least period above it. -/
theorem witness_UpdateFrequencyOutcomes :
    State.reset.ch.armed = false ∧ 1 ≠ bootT.ch.pslot ∧ bootT.ch.armed = true ∧ 0 = bootT.ch.pslot ∧
    periodTicksOf bootT.cfg 1000#32 0#32 = none ∧ periodTicksOf bootT.cfg 1000#32 333333#32 = some 2 ∧
    periodTicksOf bootT.cfg 1000#32 250000#32 = some 3 ∧ bootT.matchOf (0 + 1) = some 2 := by decide

/-- Refused; no pulse; a pulse of the period's length; the greatest pulse below it. -/
theorem witness_UpdatePulseWidthOutcomes :
    State.reset.ch.armed = false ∧ 1 ≠ bootT.ch.pslot ∧ bootT.ch.armed = true ∧ 0 = bootT.ch.pslot ∧
    pulseTicksOf bootT.cfg 1000#32 256000#32 = none ∧ pulseTicksOf bootT.cfg 1000#32 9000#32 = some 9 ∧
    pulseTicksOf bootT.cfg 1000#32 8999#32 = some 8 ∧ bootT.matchOf 0 = some 9 ∧
    0 + 1 < bootT.slots.length := by decide

/-- Counts at the counter's maximum, 255, and none just beyond. -/
theorem witness_TickCountsAreTruncatedQuotients :
    (1000#32).toNat / (Config.referenceT.prescale.toNat + 1) = 1000 ∧
    periodTicksOf Config.referenceT 1000#32 3906#32 = some 255 ∧
    periodTicksOf Config.referenceT 1000#32 3891#32 = none ∧
    pulseTicksOf Config.referenceT 1000#32 255999#32 = some 255 ∧
    pulseTicksOf Config.referenceT 1000#32 256000#32 = none := by decide

theorem witness_RejectionChangesNothing :
    ∃ t, exec (.updateFrequency 1000#32 333333#32 0) bootT = .next t ∧
      t.history = .returned (.err .invalidArgument) :: bootT.history := ⟨_, rfl, rfl⟩

theorem witness_AcceptedOperationKeepsPulseBelowPeriod :
    bootT.Inv ∧ ∃ t, exec (.updateFrequency 1000#32 250000#32 0) bootT = .next t ∧
      ∀ e, t.history ≠ .returned (.err e) :: bootT.history := ⟨bootT_inv, _, rfl, nofun⟩

theorem witness_RpmToMhzIsBoundedAndMonotone : (2499#16).toNat ≤ (2500#16).toNat := by decide

theorem witness_FetchSelectsTheFirstPhase : bootT.sys = .run ∧ bootT.ml = .fetch := by decide

/-- Each phase, in a state that meets the invariant: the hypotheses of the statements about phases. -/
theorem witness_MainAlwaysTakesItsPhase (ml : Phase) :
    ({ bootT with ml := ml } : State).Inv ∧ ({ bootT with ml := ml } : State).sys = .run ∧
    ({ bootT with ml := .f2 } : State).ml ≠ .fetch :=
  ⟨bootT_inv_with ml bootT.stk bootT.sz bootT.now bootT.gateLast bootT.count bootT.halt bootT.out bootT.trace
    (by decide) (by decide) (by decide), rfl, by decide⟩

theorem witness_NoAgentActsOutsideRun :
    State.reset.sys ≠ .run ∧ State.reset.sys = .unset ∧ Instr.btn.format = .evt ∧ Instr.btn ≠ .main ∧
    Instr.increase.format = .cmd ∧
    ({ bootT with sys := .halted .resourceExhausted } : State).sys = .halted .resourceExhausted := by decide

theorem witness_CommandStepIsTheMainStep :
    bootT.sys = .run ∧ ({ bootT with ml := .i2 } : State).inService = .increase ∧
    ({ bootT with ml := .i2 } : State).inService ≠ .toggleOutput := by decide

theorem witness_EmptyStackIdles : bootT.sys = .run ∧ bootT.ml = .fetch ∧ bootT.sz.val = 0 := by decide

/-- At FETCH with each command current, and in each later phase: the clauses of the five statements about phases, and
the hypotheses of the four about services. -/
theorem witness_phases :
    (∀ c ∈ [Command.increase, .decrease, .toggleOutput, .applyFrequency, .applyPulseWidth],
      let s := withStack [c] bootT
      s.sys = .run ∧ s.ml = .fetch ∧ s.current = c ∧ s.cmdRpm.toNat ≤ 9000 ∧ s.ch.armed = true ∧
      s.matchOf (s.ch.pslot + 1) = some 2) ∧
    (∀ ml ∈ [Phase.i1, .i2, .i3, .d1, .d2, .d3, .t1, .t2, .t3, .t4, .t5, .f1, .f2, .f3, .f4, .f5, .f6, .w1, .w2],
      ∀ on ∈ [true, false],
        let s := { bootT with ml := ml, outEn := on }
        s.sys = .run ∧ s.ml = ml ∧ s.outEn = on ∧ s.ch.armed = true) := by decide

/-- F2 accepted at 2500 RPM, rejected for a period of the pulse's length at 9000 RPM, and rejected for want of a period
at a clock of 83 Hz. -/
theorem witness_ApplyFrequencyPhases :
    (let s := { bootT with ml := .f2, cmdRpm := 2500#16 }
     periodTicksOf s.cfg s.cfg.srcClockHz (rpmToMhz s.cmdRpm) = some 11 ∧ s.matchOf (s.ch.pslot + 1) = some 2) ∧
    (let s := { bootT with ml := .f2, cmdRpm := 9000#16 }
     periodTicksOf s.cfg s.cfg.srcClockHz (rpmToMhz s.cmdRpm) = some 2 ∧ s.matchOf (s.ch.pslot + 1) = some 2) ∧
    (let s := { bootT with ml := .f2, cfg := { Config.referenceT with srcClockHz := 83#32 } }
     periodTicksOf s.cfg s.cfg.srcClockHz (rpmToMhz s.cmdRpm) = none) := by decide

/-- W1 accepted, rejected for a period of the pulse's length, and rejected for want of a pulse that fits. -/
theorem witness_ApplyPulseWidthPhases :
    (let s := { bootT with ml := .w1 }
     pulseTicksOf s.cfg s.cfg.srcClockHz 2000#32 = some 2 ∧ s.matchOf s.ch.pslot = some 9 ∧
     s.ch.pslot + 1 < s.slots.length) ∧
    (let s := { bootT with ml := .w1, slots := [⟨2, 2⟩, ⟨1, 1⟩] }
     pulseTicksOf s.cfg s.cfg.srcClockHz 2000#32 = some 2 ∧ s.matchOf s.ch.pslot = some 2 ∧
     s.ch.pslot + 1 < s.slots.length) ∧
    (let s := { bootT with ml := .w1, cfg := { Config.referenceT with counterW := 1 } }
     pulseTicksOf s.cfg s.cfg.srcClockHz 2000#32 = none) := by decide

theorem witness_DecreaseService :
    let s := withStack [.decrease] { bootT with cmdRpm := 9000#16 }
    s.sys = .run ∧ s.ml = .fetch ∧ s.current = .decrease ∧ s.cmdRpm.toNat ≤ 9000 := by decide

/-- The services' hypotheses at a full stack; for ApplyFrequency with a speed that is accepted and one that is not. -/
theorem witness_services :
    (∀ c ∈ [Command.increase, .decrease, .toggleOutput, .applyFrequency],
      let s := withStack (List.replicate 7 .none ++ [c]) bootT
      s.sys = .run ∧ s.ml = .fetch ∧ s.current = c) ∧
    (∀ period ∈ periodTicksOf bootT.cfg bootT.cfg.srcClockHz (rpmToMhz 2500#16), 2 < period) ∧
    (∀ period ∈ periodTicksOf bootT.cfg bootT.cfg.srcClockHz (rpmToMhz 9000#16), period ≤ 2) := by decide

/-- A full stack of ToggleOutput, the longest to drain. -/
theorem witness_DrainEmptiesTheStack :
    let s := { bootT with stk := Vector.replicate 8 .toggleOutput, sz := 8 }
    s.Inv ∧ s.NoNoneOnStack ∧ s.sys = .run ∧ s.ml = .fetch :=
  ⟨bootT_inv_with bootT.ml (Vector.replicate 8 .toggleOutput) 8 bootT.now bootT.gateLast bootT.count bootT.halt
    bootT.out bootT.trace (by decide) (by decide) (by decide),
    noNone_replicate .toggleOutput (by decide) _ rfl, rfl, rfl⟩

theorem witness_PushBetweenFetchAndPopIsLost :
    let s := withStack (List.replicate 7 .increase) { bootT with ml := .i3, now := 16 }
    s.sys = .run ∧ s.ml = .i3 ∧ s.gateLast + 15 < s.now ∧ s.sz.val < 8 ∧
    ∃ t u, exec .btn s = .next t ∧ exec .main t = .next u :=
  ⟨rfl, rfl, by decide, by decide, _, _, rfl, rfl⟩

theorem witness_HandlersTouchSharedStateOnly :
    ∃ t, exec .btn { bootT with now := 16 } = .next t ∧ t.gateLast = 16 ∧ Instr.btn.format = .evt := ⟨_, rfl, rfl, rfl⟩

theorem witness_TimerTouchesTimerOnly :
    ∃ t, exec .tmr { bootT with halt := false, count := 9 } = .next t ∧ t.out = .active ∧
      ∀ m ∈ bootT.slots, m.live = m.reload := ⟨_, rfl, rfl, by decide⟩

theorem witness_MainTouchesByPhase :
    ∃ t, exec .main { bootT with ml := .f2, cmdRpm := 2500#16 } = .next t ∧ t.ml = .f3 := ⟨_, rfl, rfl⟩

/-- One call of each operation answers a next state. -/
theorem witness_OperationsTouchWhatTheyName :
    after (exec (.setup 2000#32 1000#32 100000#32) (State.resetOf Config.referenceT)) State.slotsUsed = some 2 ∧
    (∀ i ∈ [Instr.updateFrequency 1000#32 250000#32 0, .updatePulseWidth 1000#32 1000#32 0, .enable true,
        .push .increase, .pop, .rpmToMhz 2500#16, .gateAccept],
      (after (exec i bootT) State.slotsUsed).isSome = true) := by decide

theorem witness_NoInstructionWritesSysOrConfiguration : ∃ t, exec (.enable true) bootT = .next t := ⟨_, rfl⟩

theorem witness_StepKeepsTheInvariant :
    ({ bootT with trace := [.word [0b00000000#8]] } : State).Inv ∧
    ∃ t, step { bootT with trace := [.word [0b00000000#8]] } = .next t :=
  ⟨bootT_inv_with bootT.ml bootT.stk bootT.sz bootT.now bootT.gateLast bootT.count bootT.halt bootT.out
    [.word [0b00000000#8]] (by decide) (by decide) (by decide), _, rfl⟩

theorem witness_ResetMeetsTheInvariant :
    Config.referenceA.InRange ∧ Config.referenceB.InRange ∧ Config.referenceT.InRange := by decide

theorem witness_StepKeepsNoneOffTheStack :
    let s := { bootT with stk := Vector.replicate 8 .increase, sz := 8, trace := [.word [0b00001100#8]] }
    s.NoNoneOnStack ∧ decodeWord [0b00001100#8] ≠ .ok (.push .none) ∧ ∃ t, step s = .next t :=
  ⟨noNone_replicate .increase (by decide) _ rfl, nofun, _, rfl⟩

/-- Where TICK still counts, and where it faults. -/
theorem witness_EventsAreNeverRefused :
    bootT.Inv ∧ bootT.sys = .run ∧ Instr.tmr.format = .evt ∧
    ({ bootT with now := 2 ^ 32 - 1 } : State).Inv :=
  ⟨bootT_inv, rfl, rfl, bootT_inv_with bootT.ml bootT.stk bootT.sz (2 ^ 32 - 1) bootT.gateLast bootT.count bootT.halt
    bootT.out bootT.trace (by decide) (by decide) (by decide)⟩

/-- Reference configuration A with a counter of 40 bits is well formed. -/
theorem wide_wellFormed : { Config.referenceA with counterW := 40 }.WellFormed where
  inRange := by decide
  freeSlots := by decide
  bootAccepted := ⟨208697, 96000, by decide, by decide, by decide⟩
  rpmAccepted := by
    intro width hw rpm _ _
    have hW : Config.bootWidth { Config.referenceA with counterW := 40 } = some 96000 := by decide
    obtain rfl : 96000 = width := by simpa [hW] using hw
    have h := rpmToMhz_toNat rpm
    have h₁ : rpmMin ≤ clamp rpm.toNat rpmMin rpmMax := le_clamp _ _ _
    have h₂ : clamp rpm.toNat rpmMin rpmMax ≤ rpmMax := clamp_le (by decide)
    simp only [rpmMin, rpmMax] at h h₁ h₂
    have hc : sctClock { Config.referenceA with counterW := 40 } 48000000#32 * 1000 = 48000000000 := by decide
    generalize hf : (rpmToMhz rpm).toNat = f at h
    have hq : 160001 ≤ 48000000000 / f := by rw [Nat.le_div_iff_mul_le (by omega)]; omega
    have hq' : 48000000000 / f ≤ 48000000000 := Nat.div_le_self _ _
    refine ⟨48000000000 / f - 1, periodTicksOf_eq_some.2 ⟨by omega, ?_, ?_⟩, by omega⟩
    · change sctClock { Config.referenceA with counterW := 40 } 48000000#32 * 1000 / (rpmToMhz rpm).toNat = _
      rw [hc, hf]; omega
    · change _ < 2 ^ 40
      omega

theorem witness_WellFormedAcceptsEverySpeed :
    let s := { bootA with cfg := { Config.referenceA with counterW := 40 }, ml := .f2 }
    s.Inv ∧ s.cfg.WellFormed ∧ s.sys = .run ∧ s.ml = .f2 ∧ s.matchOf s.ch.wslot = s.cfg.bootWidth :=
  ⟨{ cfg_inRange := by decide
     cmdRpm_range := by decide
     now_fits := by decide
     gateLast_le_now := by decide
     count_fits := by decide
     slots_length := by decide
     slots_equal_fit := by decide
     slotsUsed_le := by decide
     armed_channel := fun _ => ⟨rfl, by decide, 96000, 208697, rfl, rfl, by decide⟩
     run_armed := fun _ => rfl
     unset_unarmed := nofun }, wide_wellFormed, rfl, rfl, by decide⟩

theorem witness_EventsKeepTheFixedPulseWidth :
    bootT.Inv ∧ bootT.sys = .run ∧ bootT.matchOf bootT.ch.wslot = bootT.cfg.bootWidth ∧
    ∃ t, exec .main bootT = .next t := ⟨bootT_inv, rfl, by decide, _, rfl⟩

end Sys2Proof.Machine
end

/-! # Proofs of the family 00_scope: whose turn it is, and the reference configurations -/

namespace Sys2Proof.Machine

/-! ## Whose turn it is (R13, R88, R170) -/

theorem nextTurn_of_word {s : State} {ws : List Byte} {rest : List Stimulus} {i : Instr} (hrun : s.sys = .run)
    (htrace : s.trace = .word ws :: rest) (hdecode : decodeWord ws = .ok i) :
    nextTurn s = .run i { s with trace := rest } := by
  simp [nextTurn, htrace, hrun, hdecode]

theorem nextTurn_of_empty {s : State} (hrun : s.sys = .run) (htrace : s.trace = []) : nextTurn s = .run .main s := by
  simp [nextTurn, htrace, hrun]

theorem step_of_turn {s t : State} {i : Instr} (h : nextTurn s = .run i t) : step s = exec i t := by
  simp [step, h]

/-- Settles O9: each of the two cases fixes whose turn it is, and a turn is carried out by `exec`. -/
theorem stepRunsDecodedInstruction : Obligations.StepRunsDecodedInstruction :=
  ⟨fun _ _ _ _ hrun htrace hdecode => step_of_turn (nextTurn_of_word hrun htrace hdecode),
    fun _ hrun htrace => step_of_turn (nextTurn_of_empty hrun htrace)⟩

/-! ## Well-formed configurations (R8)

The speeds of R8 need no enumeration: `rpm_to_mhz` is clamped between its values at 2500 and 9000, and a period in
ticks falls as the frequency rises, so the two end points decide for every speed. -/

theorem rpmToMhz_between (rpm : Rpm) :
    (rpmToMhz 2500#16).toNat ≤ (rpmToMhz rpm).toNat ∧ (rpmToMhz rpm).toNat ≤ (rpmToMhz 9000#16).toNat := by
  have slow : (rpmToMhz 2500#16).toNat = 83332 := by decide
  have fast : (rpmToMhz 9000#16).toNat = 299997 := by decide
  have ge : 2500 ≤ clamp rpm.toNat rpmMin rpmMax := le_clamp _ _ _
  have le : clamp rpm.toNat rpmMin rpmMax ≤ 9000 := clamp_le (by decide)
  rw [slow, fast, rpmToMhz_toNat]
  omega

/-- Between two frequencies that have a period, every frequency has one, and it lies between theirs (R104). -/
theorem periodTicksOf_between {c : Config} {srcHz low freq high : Word32} {longest shortest : Nat}
    (hlow : periodTicksOf c srcHz low = some longest) (hhigh : periodTicksOf c srcHz high = some shortest)
    (hle : low.toNat ≤ freq.toNat) (hge : freq.toNat ≤ high.toNat) :
    ∃ period, periodTicksOf c srcHz freq = some period ∧ shortest ≤ period ∧ period ≤ longest := by
  obtain ⟨low_pos, low_quotient, longest_fits⟩ := periodTicksOf_eq_some.1 hlow
  obtain ⟨-, high_quotient, -⟩ := periodTicksOf_eq_some.1 hhigh
  have freq_pos : 0 < freq.toNat := by omega
  have le_longest := Nat.div_le_div_left (a := sctClock c srcHz * 1000) hle low_pos
  have shortest_le := Nat.div_le_div_left (a := sctClock c srcHz * 1000) hge freq_pos
  rw [low_quotient] at le_longest
  rw [high_quotient] at shortest_le
  exact ⟨sctClock c srcHz * 1000 / freq.toNat - 1,
    periodTicksOf_eq_some.2 ⟨freq_pos, by omega, by omega⟩, by omega, by omega⟩

/-- A pulse below the period of the highest speed is accepted at every speed, if the lowest speed has a period. -/
theorem acceptsRpm_of_endpoints {c : Config} {width longest shortest : Nat}
    (hslow : periodTicksOf c c.srcClockHz (rpmToMhz 2500#16) = some longest)
    (hfast : periodTicksOf c c.srcClockHz (rpmToMhz 9000#16) = some shortest)
    (hwidth : width < shortest) (rpm : Rpm) : c.acceptsRpm width rpm := by
  obtain ⟨ge, le⟩ := rpmToMhz_between rpm
  obtain ⟨period, hperiod, shortest_le, -⟩ := periodTicksOf_between hslow hfast ge le
  exact ⟨period, hperiod, by omega⟩

/-- R8 from finitely many values: the two tick counts of the boot `setup` and the periods of the two end points. -/
theorem wellFormed_of_endpoints {c : Config} {bootPeriod width longest shortest : Nat} (hrange : c.InRange)
    (hfree : slotsPerChannel ≤ c.nEventSlots - c.slotsUsedReset)
    (hboot : c.bootPeriod = some bootPeriod) (hwidth : c.bootWidth = some width) (hbelow : width < bootPeriod)
    (hslow : periodTicksOf c c.srcClockHz (rpmToMhz 2500#16) = some longest)
    (hfast : periodTicksOf c c.srcClockHz (rpmToMhz 9000#16) = some shortest)
    (hshortest : width < shortest) : c.WellFormed where
  inRange := hrange
  freeSlots := hfree
  bootAccepted := ⟨bootPeriod, width, hboot, hwidth, hbelow⟩
  rpmAccepted := by
    intro width' hwidth' rpm _ _
    obtain rfl : width = width' := Option.some.inj (hwidth.symm.trans hwidth')
    exact acceptsRpm_of_endpoints hslow hfast hshortest rpm

/-- At 48 MHz the pulse has 96000 ticks and the shortest period 160000. -/
theorem referenceA_wellFormed : Config.referenceA.WellFormed :=
  wellFormed_of_endpoints (bootPeriod := 208697) (width := 96000) (longest := 576008) (shortest := 160000)
    (by decide) (by decide) (by decide) (by decide) (by decide) (by decide) (by decide) (by decide)

/-- At 72 MHz / 6 the pulse has 24000 ticks and the shortest period 39999. -/
theorem referenceB_wellFormed : Config.referenceB.WellFormed :=
  wellFormed_of_endpoints (bootPeriod := 52173) (width := 24000) (longest := 144001) (shortest := 39999)
    (by decide) (by decide) (by decide) (by decide) (by decide) (by decide) (by decide) (by decide)

/-- Settles O58: configuration by configuration, each speed from the two end points of R8. -/
theorem referenceConfigurationsWellFormed : Obligations.ReferenceConfigurationsWellFormed :=
  ⟨referenceA_wellFormed, referenceB_wellFormed⟩

end Sys2Proof.Machine

/-! # Proofs of the family 10_state: what an instruction can do to the state, frames, and the two invariants -/

namespace Sys2Proof.Machine

/-! ## Lists of match registers (R35) -/

/-- Every register of the list holds the same value live and in its shadow, below `bound` (R35). -/
def PairsFit (bound : Nat) (slots : List MatchPair) : Prop := ∀ m ∈ slots, m.live = m.reload ∧ m.live < bound

theorem PairsFit.set {bound v : Nat} {slots : List MatchPair} (h : PairsFit bound slots) (k : Nat) (hv : v < bound) :
    PairsFit bound (slots.set k ⟨v, v⟩) := by
  intro m hm
  obtain hold | rfl := List.mem_or_eq_of_mem_set hm
  · exact h m hold
  · exact ⟨rfl, hv⟩

/-! ## What a MAIN step can do (R43, R170 to R177) -/

/-- Writing `v` to slot `k` keeps the armed channel's pulse below its period (R39, R108, R110): `v` fits the counter,
and `k` is the period slot with `v` above the programmed pulse, or the pulse slot with `v` below the programmed
period. -/
def State.Admits (s : State) (k v : Nat) : Prop :=
  s.ch.armed = true ∧ v < 2 ^ s.cfg.counterW ∧
    ((k = s.ch.pslot ∧ ∃ width, s.matchOf (s.ch.pslot + 1) = some width ∧ width < v) ∨
      (k = s.ch.pslot + 1 ∧ ∃ period, s.matchOf s.ch.pslot = some period ∧ v < period))

/-- The state after an update operation that answers is `s` itself, or `s` after an admitted write in the bracket. -/
def WritesAdmitted (s : State) (c : Call) : Prop :=
  ∀ t r, c = .next (t, r) → t = s ∨ ∃ k v, s.Admits k v ∧ t = bracketWrite k v s

theorem callUpdateFrequency_writesAdmitted (srcHz freqMhz : Word32) (slot : Nat) (s : State) :
    WritesAdmitted s (callUpdateFrequency srcHz freqMhz slot s) := by
  intro t r h
  obtain ⟨harmed, rfl, ⟨rfl, -⟩ | ⟨period, width, hperiod, hwidth, hlt, -, rfl⟩⟩ := callUpdateFrequency_next h
  · exact .inl rfl
  · obtain ⟨-, -, hfits⟩ := periodTicksOf_eq_some.1 hperiod
    exact .inr ⟨_, _, ⟨harmed, hfits, .inl ⟨rfl, width, hwidth, hlt⟩⟩, rfl⟩

theorem callUpdatePulseWidth_writesAdmitted (srcHz widthUs : Word32) (slot : Nat) (s : State) :
    WritesAdmitted s (callUpdatePulseWidth srcHz widthUs slot s) := by
  intro t r h
  obtain ⟨harmed, rfl, ⟨rfl, -⟩ | ⟨period, width, hwidth, hperiod, hlt, -, -, rfl⟩⟩ := callUpdatePulseWidth_next h
  · exact .inl rfl
  · obtain ⟨-, hfits⟩ := pulseTicksOf_eq_some.1 hwidth
    exact .inr ⟨_, _, ⟨harmed, hfits, .inr ⟨rfl, period, hperiod, hlt⟩⟩, rfl⟩

/-- What a MAIN step can do, by the sub-action of its phase; each also writes the next phase `ml`. -/
inductive PhaseEffect (s : State) : State → Prop
  /-- FETCH, and F2 and W1 when their operation rejects. -/
  | moved {ml : Phase} (hml : s.ml ∈ [.fetch, .f2, .w1]) : PhaseEffect s { s with ml := ml }
  /-- I1, D1, F1: a commanded speed in range. D1 only lowers it, so there it must not be too high before. -/
  | commanded {ml : Phase} {v : Rpm} (hml : s.ml ∈ [.i1, .d1, .f1])
      (hv : s.cmdRpm.toNat ≤ rpmMax → rpmMin ≤ v.toNat ∧ v.toNat ≤ rpmMax) :
      PhaseEffect s { s with cmdRpm := v, ml := ml }
  /-- I2, D2, T3, F5: a refresh request. -/
  | refreshed {ml : Phase} {kind : RefreshKind} (hml : s.ml ∈ [.i2, .d2, .t3, .f5]) :
      PhaseEffect s { emitRefresh kind s with ml := ml }
  /-- I3, D3, T4, F6, W2. -/
  | popped {ml : Phase} (hml : s.ml ∈ [.i3, .d3, .t4, .f6, .w2]) : PhaseEffect s { pop s with ml := ml }
  /-- T1. -/
  | toggled {ml : Phase} (hml : s.ml = .t1) : PhaseEffect s { s with outEn := !s.outEn, ml := ml }
  /-- T2, F3. -/
  | gated {ml : Phase} (hml : s.ml ∈ [.t2, .f3]) : PhaseEffect s { enable s.outEn s with ml := ml }
  /-- T5. -/
  | pushed {ml : Phase} (hml : s.ml = .t5) : PhaseEffect s { push .applyFrequency s with ml := ml }
  /-- F4. -/
  | applied {ml : Phase} (hml : s.ml = .f4) : PhaseEffect s { s with appRpm := s.cmdRpm, ml := ml }
  /-- F2 and W1 when their operation accepts. -/
  | programmed {ml : Phase} {k v : Nat} (hml : s.ml ∈ [.f2, .w1]) (hkv : s.Admits k v) :
      PhaseEffect s { bracketWrite k v s with ml := ml }

theorem clampRpm_range (v : Nat) : rpmMin ≤ (clampRpm v).toNat ∧ (clampRpm v).toNat ≤ rpmMax := by
  rw [clampRpm_toNat]
  exact ⟨le_clamp _ _ _, clamp_le (by decide)⟩

/-- D1 (R174): lowered by the step, but not below the minimum. -/
theorem phaseD1_range {s : State} (h : s.cmdRpm.toNat ≤ rpmMax) :
    rpmMin ≤ (phaseD1 s).cmdRpm.toNat ∧ (phaseD1 s).cmdRpm.toNat ≤ rpmMax := by
  unfold phaseD1
  dsimp only
  split
  · decide
  · rename_i hlow
    simp only [rpmMin, rpmMax, BitVec.toNat_ofNat] at h hlow ⊢
    omega

/-- F2 and W1: the operation, its result dropped, and the next phase (R176, R177). -/
theorem phaseEffect_of_writesAdmitted {s t : State} {c : Call} {ml : Phase} (hml : s.ml ∈ [.f2, .w1])
    (hc : WritesAdmitted s c) (h : andThen c (fun u _ => { u with ml := ml }) = .next t) : PhaseEffect s t := by
  obtain ⟨u, r, hcall, rfl⟩ := andThen_next h
  obtain rfl | ⟨k, v, hkv, rfl⟩ := hc u r hcall
  · exact .moved (List.mem_cons_of_mem _ hml)
  · exact .programmed hml hkv

theorem runPhase_effect {s t : State} (h : runPhase s = .next t) : PhaseEffect s t := by
  cases hml : s.ml <;> simp only [runPhase, hml, Host.Outcome.next.injEq] at h
  case f2 => exact phaseEffect_of_writesAdmitted (by simp [hml]) (callUpdateFrequency_writesAdmitted _ _ _ s) h
  case w1 => exact phaseEffect_of_writesAdmitted (by simp [hml]) (callUpdatePulseWidth_writesAdmitted _ _ _ s) h
  all_goals subst h
  case fetch => exact .moved (by simp [hml])
  case i1 | f1 => exact .commanded (by simp [hml]) fun _ => clampRpm_range _
  case d1 => exact .commanded (by simp [hml]) phaseD1_range
  case i2 | d2 | t3 | f5 => exact .refreshed (by simp [hml])
  case i3 | d3 | t4 | f6 | w2 => exact .popped (by simp [hml])
  case t1 => exact .toggled hml
  case t2 | f3 => exact .gated (by simp [hml])
  case t5 => exact .pushed hml
  case f4 => exact .applied hml

/-! ## What an instruction can do -/

/-- What an instruction that answers a next state can do, in terms of the shared operations. -/
inductive Effect (s : State) : Instr → State → Prop
  /-- ENC_A, and every event that is ignored: outside RUN, at a closed gate, at a stopped counter. -/
  | ignored {i : Instr} (hi : i.format = .evt) : Effect s i s
  /-- MAIN and the commands. -/
  | phase {i : Instr} {t : State} (hi : i = .main ∨ i.format = .cmd) (hrun : s.sys = .run) (h : PhaseEffect s t) :
      Effect s i t
  /-- TICK (R146). -/
  | ticked (hnow : s.now + 1 < 2 ^ s.cfg.tickW) : Effect s .tick { s with now := s.now + 1 }
  /-- An accepted ENC_B or BTN (R147, R148). -/
  | edge {i : Instr} {c : Command} (hi : (∃ a, i = .encB a) ∨ i = .btn) (hc : c ≠ .none) :
      Effect s i (push c { s with gateLast := s.now })
  /-- An accepted SW to ON (R149). -/
  | switchedOn : Effect s (.sw .toOn) { s with gateLast := s.now, fast := !s.fast }
  /-- An accepted SW to OFF (R149). -/
  | switchedOff : Effect s (.sw .toOff) (push .applyFrequency { s with gateLast := s.now, fast := !s.fast })
  /-- TMR with the counter running (R112). -/
  | timed {t : State} (h : timerTick s = .next t) : Effect s .tmr t
  /-- `setup` (R106). -/
  | setUp {widthUs srcHz freqMhz : Word32} {t : State} {r : Returned}
      (h : callSetup widthUs srcHz freqMhz s = .next (t, r)) :
      Effect s (.setup widthUs srcHz freqMhz) (record (.returned r) t)
  /-- An accepted update operation (R108, R110). -/
  | programmed {i : Instr} {k v : Nat} {r : Returned} (hi : i.format = .op) (hkv : s.Admits k v) :
      Effect s i (record (.returned r) (bracketWrite k v s))
  /-- An operation that changes no state: a rejected one, and `rpm_to_mhz`. -/
  | answered {i : Instr} {r : Returned} (hi : i.format = .op) : Effect s i (record (.returned r) s)
  /-- `gate_accept`, accepted (R143). -/
  | accepted {r : Returned} : Effect s .gateAccept (record (.returned r) { s with gateLast := s.now })
  /-- `enable` (R111). -/
  | enabled {on : Bool} : Effect s (.enable on) (enable on s)
  /-- `push` (R140). -/
  | pushed {c : Command} : Effect s (.push c) (push c s)
  /-- `pop` (R141). -/
  | popped : Effect s .pop (pop s)

theorem execTick_effect {s t : State} (h : execTick s = .next t) : Effect s .tick t := by
  unfold execTick at h
  split at h
  · split at h
    · cases h
      exact .ticked (by omega)
    · cases h
  · cases h
    exact .ignored rfl

theorem execEncB_effect {s t : State} {a : Bool} (h : execEncB a s = .next t) : Effect s (.encB a) t := by
  cases h
  obtain ⟨-, -, heq⟩ | heq := onAcceptedEdge_cases s
      fun t => if a = t.cfg.encIncLevel then push .increase t else push .decrease t
  · rw [heq]
    split
    · exact .edge (.inl ⟨a, rfl⟩) (by decide)
    · exact .edge (.inl ⟨a, rfl⟩) (by decide)
  · rw [heq]
    exact .ignored rfl

theorem execBtn_effect {s t : State} (h : execBtn s = .next t) : Effect s .btn t := by
  cases h
  obtain ⟨-, -, heq⟩ | heq := onAcceptedEdge_cases s (push .toggleOutput)
  · rw [heq]
    exact .edge (.inr rfl) (by decide)
  · rw [heq]
    exact .ignored rfl

theorem execSw_effect {s t : State} {d : SwDir} (h : execSw d s = .next t) : Effect s (.sw d) t := by
  cases h
  obtain ⟨-, -, heq⟩ | heq := onAcceptedEdge_cases s _
  · rw [heq]
    cases d with
    | toOff => exact .switchedOff
    | toOn => exact .switchedOn
  · rw [heq]
    exact .ignored rfl

theorem execTmr_next {s t : State} (h : execTmr s = .next t) : t = s ∨ timerTick s = .next t := by
  unfold execTmr at h
  split at h
  · exact .inr h
  · cases h
    exact .inl rfl

theorem execTmr_effect {s t : State} (h : execTmr s = .next t) : Effect s .tmr t := by
  obtain rfl | htick := execTmr_next h
  · exact .ignored rfl
  · exact .timed htick

theorem exists_command_of_cmd {i : Instr} (hi : i.format = .cmd) : ∃ c : Command, i = c.instr := by
  cases i with
  | cmdNone => exact ⟨.none, rfl⟩
  | increase => exact ⟨.increase, rfl⟩
  | decrease => exact ⟨.decrease, rfl⟩
  | toggleOutput => exact ⟨.toggleOutput, rfl⟩
  | applyFrequency => exact ⟨.applyFrequency, rfl⟩
  | applyPulseWidth => exact ⟨.applyPulseWidth, rfl⟩
  | _ => cases hi

theorem exec_command (c : Command) (s : State) : exec c.instr s = serveCommand c s := by
  cases c <;> rfl

/-- MAIN and the commands: a step of the run state only, and then a phase of the main loop or none (R170, R171). -/
theorem exec_eq_whenRunning (s : State) {i : Instr} (hi : i = .main ∨ i.format = .cmd) :
    ∃ k, exec i s = whenRunning s k ∧ ∀ t, k = .next t → runPhase s = .next t := by
  obtain rfl | hcmd := hi
  · exact ⟨runPhase s, rfl, fun _ => id⟩
  · obtain ⟨c, rfl⟩ := exists_command_of_cmd hcmd
    refine ⟨_, exec_command c s, fun t => ?_⟩
    split
    · exact id
    · nofun

theorem phaseEffect_of_exec {i : Instr} {s t : State} (hi : i = .main ∨ i.format = .cmd) (h : exec i s = .next t) :
    s.sys = .run ∧ PhaseEffect s t := by
  obtain ⟨k, hk, hphase⟩ := exec_eq_whenRunning s hi
  obtain ⟨hrun, hnext⟩ := whenRunning_next (hk.symm.trans h)
  exact ⟨hrun, runPhase_effect (hphase t hnext)⟩

theorem effect_of_exec_phase {i : Instr} {s t : State} (hi : i = .main ∨ i.format = .cmd) (h : exec i s = .next t) :
    Effect s i t := by
  obtain ⟨hrun, hphase⟩ := phaseEffect_of_exec hi h
  exact .phase hi hrun hphase

theorem effect_of_writesAdmitted {i : Instr} {s t : State} {c : Call} (hi : i.format = .op)
    (hc : WritesAdmitted s c) (h : recordResult c = .next t) : Effect s i t := by
  obtain ⟨u, r, hcall, rfl⟩ := andThen_next h
  obtain rfl | ⟨k, v, hkv, rfl⟩ := hc u r hcall
  · exact .answered hi
  · exact .programmed hi hkv

theorem execGateAccept_effect {s t : State} (h : execGateAccept s = .next t) : Effect s .gateAccept t := by
  cases h
  by_cases hopen : s.gateLast + 15 < s.now
  · rw [gateAccept_of_open hopen]
    exact .accepted
  · rw [gateAccept_of_closed (by omega)]
    exact .answered rfl

/-- Everything an instruction can do: the frames and the invariants below are read off this list. -/
theorem effect_of_exec {i : Instr} {s t : State} (h : exec i s = .next t) : Effect s i t := by
  cases i with
  | cmdNone | increase | decrease | toggleOutput | applyFrequency | applyPulseWidth =>
    exact effect_of_exec_phase (.inr rfl) h
  | tick => exact execTick_effect h
  | encB a => exact execEncB_effect h
  | btn => exact execBtn_effect h
  | sw d => exact execSw_effect h
  | tmr => exact execTmr_effect h
  | encA => cases h; exact .ignored rfl
  | main => exact effect_of_exec_phase (.inl rfl) h
  | setup widthUs srcHz freqMhz =>
    obtain ⟨u, r, hcall, rfl⟩ := andThen_next h
    exact .setUp hcall
  | updateFrequency srcHz freqMhz slot =>
    exact effect_of_writesAdmitted rfl (callUpdateFrequency_writesAdmitted srcHz freqMhz slot s) h
  | updatePulseWidth srcHz widthUs slot =>
    exact effect_of_writesAdmitted rfl (callUpdatePulseWidth_writesAdmitted srcHz widthUs slot s) h
  | enable on => cases h; exact .enabled
  | push c => cases h; exact .pushed
  | pop => cases h; exact .popped
  | rpmToMhz rpm => cases h; exact .answered rfl
  | gateAccept => exact execGateAccept_effect h

/-! ## Frames of the shared operations (R43) -/

theorem push_frame (c : Command) (s : State) :
    push c s = { s with stk := (push c s).stk, sz := (push c s).sz, history := (push c s).history } := by
  unfold push
  split <;> rfl

theorem enable_frame (on : Bool) (s : State) :
    enable on s = { s with halt := (enable on s).halt, out := (enable on s).out } := by
  cases on <;> rfl

theorem timerTick_frame {s t : State} (h : timerTick s = .next t) :
    t = { s with count := t.count, out := t.out, slots := t.slots } := by
  obtain ⟨-, -, rfl⟩ | ⟨-, -, -, rfl⟩ | ⟨-, rfl⟩ := timerTick_next h <;> rfl

theorem timerTick_slots {s t : State} (h : timerTick s = .next t) (heq : ∀ m ∈ s.slots, m.live = m.reload) :
    t.slots = s.slots := by
  obtain ⟨-, -, rfl⟩ | ⟨-, -, -, rfl⟩ | ⟨-, rfl⟩ := timerTick_next h
  · rw [reload_eq_self (s := { s with out := .active, count := 0 }) heq]
  · rfl
  · rfl

theorem callSetup_frame {widthUs srcHz freqMhz : Word32} {s t : State} {r : Returned}
    (h : callSetup widthUs srcHz freqMhz s = .next (t, r)) :
    t = { s with slotsUsed := t.slotsUsed, out := t.out, slots := t.slots, ch := t.ch } := by
  obtain ⟨-, -, ⟨rfl, -⟩ | ⟨_, _, -, -, -, -, -, -, rfl⟩⟩ := callSetup_next h <;> rfl

theorem boot_frame {s t : State} (h : boot s = .next t) :
    t = { s with sys := t.sys, slotsUsed := t.slotsUsed, out := t.out, slots := t.slots, ch := t.ch } := by
  obtain ⟨u, r, hcall, rfl⟩ := andThen_next h
  rw [callSetup_frame hcall]
  cases r <;> rfl

/-- What a MAIN step leaves unchanged, phase by phase (R211). -/
theorem PhaseEffect.frame {s t : State} (h : PhaseEffect s t) :
    t = { s with
      cmdRpm := t.cmdRpm, appRpm := t.appRpm, outEn := t.outEn, ml := t.ml, stk := t.stk, sz := t.sz,
      halt := t.halt, slots := t.slots, out := t.out, history := t.history } ∧
    (s.ml ≠ .f4 → t.appRpm = s.appRpm) ∧ (s.ml ≠ .t1 → t.outEn = s.outEn) ∧
    (s.ml ∉ [.i1, .d1, .f1] → t.cmdRpm = s.cmdRpm) ∧ (s.ml ∉ [.f2, .w1] → t.slots = s.slots) ∧
    (s.ml ∉ [.t2, .f2, .f3, .w1] → t.halt = s.halt ∧ t.out = s.out) ∧ (s.ml ≠ .t5 → t.stk = s.stk) ∧
    (s.ml ∉ [.i3, .d3, .t4, .t5, .f6, .w2] → t.sz = s.sz) ∧
    (s.ml ∉ [.i2, .d2, .t3, .t5, .f5] → t.history = s.history) := by
  cases h with
  | moved => simp
  | commanded hml | toggled hml | pushed hml | applied hml => simp [hml]
  | refreshed hml | popped hml | gated hml | programmed hml =>
    -- the clause about a field that the effect writes excludes the effect's phases; the other fields are kept
    simp only [List.mem_cons, List.not_mem_nil, or_false] at hml
    simp
    tauto

/-! ## The statements about frames -/

/-- Settles O53: each shared operation keeps the three fields. -/
theorem noInstructionWritesSysOrConfiguration : Obligations.NoInstructionWritesSysOrConfiguration := by
  intro s t i h
  cases effect_of_exec h with
  | ignored | ticked | switchedOn => exact ⟨rfl, rfl, rfl⟩
  | edge | switchedOff | programmed | answered | accepted | enabled | pushed | popped => simp
  | phase _ _ hphase =>
    obtain ⟨hframe, -⟩ := hphase.frame
    rw [hframe]
    exact ⟨rfl, rfl, rfl⟩
  | timed htick =>
    rw [timerTick_frame htick]
    exact ⟨rfl, rfl, rfl⟩
  | setUp hcall =>
    rw [callSetup_frame hcall]
    exact ⟨rfl, rfl, rfl⟩

/-- Settles O49: an edge's push keeps all but the stack, and no other handler does more than it names. -/
theorem handlersTouchSharedStateOnly : Obligations.HandlersTouchSharedStateOnly := by
  intro s t i hevt hmain htmr h
  cases effect_of_exec h with
  | ignored => exact ⟨rfl, fun _ => rfl, fun _ => rfl, fun _ => rfl⟩
  | ticked => exact ⟨rfl, fun hne => absurd rfl hne, fun _ => rfl, fun _ => rfl⟩
  | edge hi =>
    refine ⟨by rw [push_frame], fun _ => by simp, ?_, fun _ => by simp⟩
    rintro rfl
    simp at hi
  | switchedOn => exact ⟨rfl, fun _ => rfl, nofun, fun hne => absurd rfl (hne _)⟩
  | switchedOff => exact ⟨by rw [push_frame], fun _ => by simp, nofun, fun hne => absurd rfl (hne _)⟩
  | timed => exact absurd rfl htmr
  | phase hi => simp [hmain, hevt] at hi
  | programmed hi | answered hi => simp [hevt] at hi
  | setUp | accepted | enabled | pushed | popped => cases hevt

/-- Settles O50: a reload apart, a tick of the timer writes `COUNT` and `OUT`. -/
theorem timerTouchesTimerOnly : Obligations.TimerTouchesTimerOnly := by
  intro s t h
  obtain rfl | htick := execTmr_next h
  · exact ⟨rfl, fun _ => rfl⟩
  · exact ⟨timerTick_frame htick, timerTick_slots htick⟩

/-- Settles O51: a command's step and MAIN do one phase. -/
theorem mainTouchesByPhase : Obligations.MainTouchesByPhase := by
  intro s t i hi h
  obtain ⟨-, hphase⟩ := phaseEffect_of_exec hi h
  exact hphase.frame

/-! ## Outside RUN (R30, R145, R170) -/

theorem whenRunning_unset {s : State} (k : Exec) (h : s.sys = .unset) : whenRunning s k = .refused .beforeBoot := by
  simp [whenRunning, h]

theorem whenRunning_halted {s : State} {e : Err} (k : Exec) (h : s.sys = .halted e) :
    whenRunning s k = .fault (.halted e) := by
  simp [whenRunning, h]

/-- An event's handler and the timer do nothing outside RUN. -/
theorem exec_evt_of_not_run {s : State} {i : Instr} (hrun : s.sys ≠ .run) (hi : i.format = .evt) (hmain : i ≠ .main) :
    exec i s = .next s := by
  cases i with
  | tick => simp [execTick, hrun]
  | tmr => simp [execTmr, hrun]
  | encB a => simp [execEncB, onAcceptedEdge_of_not_run _ hrun]
  | btn => simp [execBtn, onAcceptedEdge_of_not_run _ hrun]
  | sw d => simp [execSw, onAcceptedEdge_of_not_run _ hrun]
  | encA => rfl
  | main => exact absurd rfl hmain
  | _ => cases hi

/-- Settles O35: the events by their guards, MAIN and the commands by the guard they share. -/
theorem noAgentActsOutsideRun : Obligations.NoAgentActsOutsideRun := by
  refine fun s i => ⟨exec_evt_of_not_run, fun hi => ?_⟩
  obtain ⟨k, hk, -⟩ := exec_eq_whenRunning s hi
  rw [hk]
  exact ⟨whenRunning_unset k, fun _ => whenRunning_halted k⟩

/-- Settles O8: whatever the trace holds, the turn is nobody's. -/
theorem haltedBlockHasNoStep : Obligations.HaltedBlockHasNoStep := by
  intro s e hsys hrst
  have hturn : nextTurn s = .dead e := by
    rcases htrace : s.trace with _ | ⟨_ | bytes, rest⟩
    · simp [nextTurn, htrace, hsys]
    · exact absurd htrace (hrst rest)
    · simp [nextTurn, htrace, hsys]
  simp [step, hturn]

/-! ## Reset -/

/-- Settles O4: the stack and the slots are lists of one repeated value, every other item is written out. -/
theorem resetStateOfEveryConfiguration : Obligations.ResetStateOfEveryConfiguration := by
  intro c
  simp [State.resetOf, State.current, rpmDefault, Line.level]

theorem resetOf_inv {c : Config} (h : c.InRange) : (State.resetOf c).Inv where
  cfg_inRange := h
  cmdRpm_range :=
    (by decide : rpmMin ≤ (BitVec.ofNat 16 rpmDefault).toNat ∧ (BitVec.ofNat 16 rpmDefault).toNat ≤ rpmMax)
  now_fits := Nat.two_pow_pos _
  gateLast_le_now := Nat.le_refl 0
  count_fits := Nat.two_pow_pos _
  slots_length := List.length_replicate
  slots_equal_fit := by
    intro m hm
    obtain rfl := List.eq_of_mem_replicate hm
    exact ⟨rfl, Nat.two_pow_pos _⟩
  slotsUsed_le := by
    obtain ⟨-, -, -, hused⟩ := h
    exact hused
  armed_channel := nofun
  run_armed := nofun
  unset_unarmed := fun _ => ⟨rfl, rfl⟩

theorem noNone_of_empty {s : State} (h : s.sz.val = 0) : s.NoNoneOnStack := fun k hk => by omega

/-- Settles O55. -/
theorem resetMeetsTheInvariant : Obligations.ResetMeetsTheInvariant :=
  fun _ h => ⟨resetOf_inv h, noNone_of_empty rfl⟩

/-! ## The invariant (R21 to R39), operation by operation

A write to a field that the invariant does not read carries over every field of its proof: `{ h with }`. -/

theorem inv_push {s : State} (h : s.Inv) (c : Command) : (push c s).Inv := by
  rw [push_frame]
  exact { h with }

theorem inv_enable {s : State} (h : s.Inv) (hrun : s.sys = .run) (on : Bool) : (enable on s).Inv := by
  rw [enable_frame]
  exact { h with unset_unarmed := by simp [hrun] }

theorem inv_gate {s : State} (h : s.Inv) (fast : Bool) : ({ s with gateLast := s.now, fast := fast } : State).Inv :=
  { h with gateLast_le_now := Nat.le_refl _ }

/-- An admitted write keeps the channel invariant: the other of the channel's two slots is as it was (R39). -/
theorem inv_bracketWrite {s : State} (h : s.Inv) (hrun : s.sys = .run) {k v : Nat} (hkv : s.Admits k v) :
    (bracketWrite k v s).Inv := by
  obtain ⟨harmed, hfits, hslot⟩ := hkv
  obtain ⟨hwslot, hused, width, period, hwidth, hperiod, hlt⟩ := h.armed_channel harmed
  have hk : k < s.slots.length := by
    obtain ⟨rfl, -⟩ | ⟨rfl, -⟩ := hslot
    · exact matchOf_lt hperiod
    · exact hwslot ▸ matchOf_lt hwidth
  have hread (j : Nat) : (bracketWrite k v s).matchOf j = if j = k then some v else s.matchOf j :=
    matchOf_bracketWrite k v j hk
  have hbelow : (bracketWrite k v s).PulseBelowPeriod := by
    obtain ⟨rfl, w, hw, hwv⟩ | ⟨rfl, p, hp, hvp⟩ := hslot
    · exact ⟨w, v, by simp [hread, hwslot, hw], by simp [hread], hwv⟩
    · exact ⟨v, p, by simp [hread, hwslot], by simp [hread, hp], hvp⟩
  exact { h with
    slots_length := by simpa using h.slots_length
    slots_equal_fit := PairsFit.set h.slots_equal_fit k hfits
    armed_channel := fun _ => ⟨hwslot, hused, hbelow⟩
    unset_unarmed := by simp [hrun] }

theorem inv_timerTick {s t : State} (h : s.Inv) (htick : timerTick s = .next t) : t.Inv := by
  obtain ⟨-, -, rfl⟩ | ⟨-, -, -, rfl⟩ | ⟨-, rfl⟩ := timerTick_next htick
  · rw [reload_eq_self (s := { s with out := .active, count := 0 }) fun m hm => (h.slots_equal_fit m hm).1]
    exact { h with count_fits := Nat.two_pow_pos _ }
  · exact { h with count_fits := Nat.mod_lt _ (Nat.two_pow_pos _) }
  · exact { h with count_fits := Nat.mod_lt _ (Nat.two_pow_pos _) }

theorem PhaseEffect.inv {s t : State} (h : s.Inv) (hrun : s.sys = .run) (ht : PhaseEffect s t) : t.Inv := by
  cases ht with
  | moved | refreshed | popped | toggled | applied => exact { h with }
  | commanded _ hv => exact { h with cmdRpm_range := hv h.cmdRpm_range.2 }
  | gated => exact { inv_enable h hrun s.outEn with }
  | pushed => exact { inv_push h .applyFrequency with }
  | programmed _ hkv => exact { inv_bracketWrite h hrun hkv with }

/-- Each instruction; in RUN the channel is armed, so that `setup` has no next state. -/
theorem exec_keeps_inv {s t : State} {i : Instr} (h : s.Inv) (hrun : s.sys = .run) (hexec : exec i s = .next t) :
    t.Inv := by
  cases effect_of_exec hexec with
  | ignored => exact h
  | phase _ _ hphase => exact hphase.inv h hrun
  | ticked hnow => exact { h with now_fits := hnow, gateLast_le_now := Nat.le_succ_of_le h.gateLast_le_now }
  | edge => exact inv_push (inv_gate h s.fast) _
  | switchedOn => exact inv_gate h _
  | switchedOff => exact inv_push (inv_gate h _) _
  | timed htick => exact inv_timerTick h htick
  | setUp hcall =>
    obtain ⟨-, hunarmed, -⟩ := callSetup_next hcall
    simp [h.run_armed hrun] at hunarmed
  | programmed _ hkv => exact { inv_bracketWrite h hrun hkv with }
  | answered | popped => exact { h with }
  | accepted => exact { inv_gate h s.fast with }
  | enabled => exact inv_enable h hrun _
  | pushed => exact inv_push h _

theorem boot_keeps_inv {s t : State} (h : s.Inv) (hboot : boot s = .next t) : t.Inv := by
  obtain ⟨u, r, hcall, rfl⟩ := andThen_next hboot
  obtain ⟨-, -, ⟨rfl, e, rfl⟩ | ⟨period, width, hperiod, hwidth, hlt, hfree, hslot, rfl, rfl⟩⟩ :=
    callSetup_next hcall
  · exact { h with run_armed := nofun, unset_unarmed := nofun }
  · obtain ⟨-, -, hperiodFits⟩ := periodTicksOf_eq_some.1 hperiod
    obtain ⟨-, hwidthFits⟩ := pulseTicksOf_eq_some.1 hwidth
    have hperiodSlot : s.slotsUsed < s.slots.length := by omega
    exact { h with
      slots_length := by simpa using h.slots_length
      slots_equal_fit := PairsFit.set (PairsFit.set h.slots_equal_fit _ hperiodFits) _ hwidthFits
      slotsUsed_le := hfree
      armed_channel := fun _ => ⟨rfl, Nat.lt_succ_self _, width, period,
        by simp [State.matchOf, hslot], by simp [State.matchOf, hperiodSlot], hlt⟩
      run_armed := fun _ => rfl
      unset_unarmed := nofun }

/-- Settles O54: reset starts anew, and boot and every instruction in RUN keep the invariant. -/
theorem stepKeepsTheInvariant : Obligations.StepKeepsTheInvariant := by
  intro s t h hstep
  obtain ⟨rest, -, rfl⟩ | ⟨-, hboot⟩ | ⟨hrun, _, rest, i, -, -, hexec⟩ | ⟨hrun, -, hexec⟩ := step_next hstep
  · exact { resetOf_inv h.cfg_inRange with }
  · exact boot_keeps_inv h hboot
  · exact exec_keeps_inv (s := { s with trace := rest }) { h with } hrun hexec
  · exact exec_keeps_inv h hrun hexec

/-! ## No `None` on the stack (R32) -/

theorem noNone_of_stk_eq {s t : State} (h : s.NoNoneOnStack) (hstk : t.stk = s.stk) (hsz : t.sz.val ≤ s.sz.val) :
    t.NoNoneOnStack := by
  intro k hk
  rw [hstk]
  exact h k (by omega)

theorem noNone_pop {s : State} (h : s.NoNoneOnStack) : (pop s).NoNoneOnStack :=
  noNone_of_stk_eq h rfl (Nat.sub_le _ _)

theorem noNone_push {s : State} (h : s.NoNoneOnStack) {c : Command} (hc : c ≠ .none) : (push c s).NoNoneOnStack := by
  by_cases hroom : s.sz.val < 8
  · intro k hk
    rw [push_sz_of_room c hroom] at hk
    rw [push_stk_of_room c hroom, Fin.getElem_fin, Vector.getElem_set]
    split
    · exact hc
    · exact h k (by omega)
  · rw [push_of_full c (by omega)]
    exact h

theorem PhaseEffect.noNone {s t : State} (h : s.NoNoneOnStack) (ht : PhaseEffect s t) : t.NoNoneOnStack := by
  cases ht with
  | moved | commanded | toggled | applied => exact h
  | refreshed | gated | programmed => exact noNone_of_stk_eq h (by simp) (by simp)
  | popped => exact noNone_pop h
  | pushed => exact noNone_push h (by decide)

theorem exec_keeps_noNone {s t : State} {i : Instr} (h : s.NoNoneOnStack) (hi : i ≠ .push .none)
    (hexec : exec i s = .next t) : t.NoNoneOnStack := by
  cases effect_of_exec hexec with
  | ignored | ticked | switchedOn => exact h
  | programmed | answered | accepted | enabled => exact noNone_of_stk_eq h (by simp) (by simp)
  | phase _ _ hphase => exact hphase.noNone h
  | edge _ hc => exact noNone_push (s := { s with gateLast := s.now }) h hc
  | switchedOff => exact noNone_push (s := { s with gateLast := s.now, fast := !s.fast }) h (by decide)
  | timed htick =>
    rw [timerTick_frame htick]
    exact h
  | setUp hcall =>
    rw [callSetup_frame hcall]
    exact h
  | pushed => exact noNone_push h fun hc => hi (by rw [hc])
  | popped => exact noNone_pop h

theorem boot_keeps_noNone {s t : State} (h : s.NoNoneOnStack) (hboot : boot s = .next t) : t.NoNoneOnStack := by
  rw [boot_frame hboot]
  exact h

/-- Settles O56: reset empties the stack, boot leaves it, and what an instruction pushes is a command. -/
theorem stepKeepsNoneOffTheStack : Obligations.StepKeepsNoneOffTheStack := by
  intro s t h hword hstep
  obtain ⟨rest, -, rfl⟩ | ⟨-, hboot⟩ | ⟨-, ws, rest, i, htrace, hdecode, hexec⟩ | ⟨-, -, hexec⟩ := step_next hstep
  · exact noNone_of_empty rfl
  · exact boot_keeps_noNone h hboot
  · refine exec_keeps_noNone (s := { s with trace := rest }) h ?_ hexec
    rintro rfl
    exact hword ws rest htrace hdecode
  · exact exec_keeps_noNone h (by decide) hexec

end Sys2Proof.Machine

/-! # Proofs of the family 30_encoding: decode and encode agree, reserved codes, and DRAIN -/

namespace Sys2Proof

/-! ## The decoder undoes the encoder, operand by operand (R81 to R85)

Every reader is stated with arbitrary bytes behind the operand, so that the readers of one instruction chain. -/

@[simp] theorem except_ok_bind {ε α β : Type} (a : α) (f : α → Except ε β) : (Except.ok a >>= f) = f a := rfl

@[simp] theorem except_map_ok {ε α β : Type} (f : α → β) (a : α) :
    (Except.ok a : Except ε α).map f = .ok (f a) := rfl

@[simp] theorem take32_bytes32 (v : Word32) (rest : List Byte) : take32 (bytes32 v ++ rest) = .ok (v, rest) := by
  have hjoin : v.extractLsb' 24 8 ++ v.extractLsb' 16 8 ++ v.extractLsb' 8 8 ++ v.extractLsb' 0 8 = v := by
    rw [BitVec.extractLsb'_append_extractLsb'_eq_extractLsb' (by rfl),
      BitVec.extractLsb'_append_extractLsb'_eq_extractLsb' (by rfl),
      BitVec.extractLsb'_append_extractLsb'_eq_extractLsb' (by rfl), BitVec.extractLsb'_eq_self]
  simp [bytes32, take32, hjoin]

@[simp] theorem take16_bytes16 (v : Rpm) (rest : List Byte) : take16 (bytes16 v ++ rest) = .ok (v, rest) := by
  have hjoin : v.extractLsb' 8 8 ++ v.extractLsb' 0 8 = v := BitVec.extractLsb'_append_extractLsb'
  simp [bytes16, take16, hjoin]

@[simp] theorem takeBool_byteOfBool (b : Bool) (rest : List Byte) :
    takeBool (byteOfBool b :: rest) = .ok (b, rest) := by
  cases b <;> rfl

@[simp] theorem decodeCmd_code (c : Command) : decodeCmd c.code = .ok c := by
  cases c <;> rfl

@[simp] theorem decodeEvt_encB (a : Bool) : decodeEvt (0b001#3 ++ BitVec.ofBool a) = .ok (.encB a) := by
  cases a <;> rfl

@[simp] theorem decodeEvt_sw (d : SwDir) : decodeEvt (0b011#3 ++ d.bit) = .ok (.sw d) := by
  cases d <;> rfl

/-- A 3-bit code in a wider field has no stray bit. -/
theorem code3_setWidth {w : Nat} (hw : 3 ≤ w) (c : BitVec 3) : code3 w (c.setWidth w) = .ok c := by
  have hlt : c.toNat < 8 := c.isLt
  have hkept : (c.setWidth w).toNat = c.toNat := BitVec.toNat_setWidth_of_le hw
  simp [code3, hkept, hlt]

@[simp] theorem takeCmd_code (c : Command) (rest : List Byte) :
    takeCmd (c.code.setWidth 8 :: rest) = .ok (c, rest) := by
  simp [takeCmd, code3_setWidth]

/-! ## The first byte (notes/assumptions/3.md) -/

theorem frame_code (f : Format) (code : BitVec 4) : (frame f code).extractLsb' 0 4 = code :=
  BitVec.extractLsb'_append_eq_right

theorem frame_tag (f : Format) (code : BitVec 4) : (frame f code).extractLsb' 4 4 = f.tag :=
  BitVec.extractLsb'_append_eq_left

theorem decode_frame_evt (code : BitVec 4) (rest : List Byte) :
    decode (frame .evt code :: rest) = (decodeEvt code).map (·, rest) := by
  simp only [decode, frame_code, frame_tag]
  rfl

theorem decode_frame_cmd (c : Command) (rest : List Byte) :
    decode (frame .cmd (c.code.setWidth 4) :: rest) = .ok (c.instr, rest) := by
  simp [decode, frame_code, frame_tag, Format.tag, code3_setWidth]

theorem decode_frame_op (o : BitVec 3) (rest : List Byte) :
    decode (frame .op (o.setWidth 4) :: rest) = decodeOp o rest := by
  simp [decode, frame_code, frame_tag, Format.tag, code3_setWidth]

/-! ## Decoding an encoded instruction -/

/-- A slot number that fits its field survives it (notes/assumptions/3.md). -/
theorem toNat_ofNat_of_slotFits {slot : Nat} (h : slotFits slot = true) : (BitVec.ofNat 32 slot).toNat = slot := by
  rw [BitVec.toNat_ofNat]
  exact Nat.mod_eq_of_lt (of_decide_eq_true h)

theorem decode_encode {i : Instr} (hwf : i.wf = true) (rest : List Byte) :
    decode (encode i ++ rest) = .ok (i, rest) := by
  cases i with
  | tick | btn | tmr | encA | main => exact decode_frame_evt _ rest
  | encB a => simp [encode, decode_frame_evt]
  | sw d => simp [encode, decode_frame_evt]
  | cmdNone => exact decode_frame_cmd .none rest
  | increase => exact decode_frame_cmd .increase rest
  | decrease => exact decode_frame_cmd .decrease rest
  | toggleOutput => exact decode_frame_cmd .toggleOutput rest
  | applyFrequency => exact decode_frame_cmd .applyFrequency rest
  | applyPulseWidth => exact decode_frame_cmd .applyPulseWidth rest
  | setup widthUs srcHz freqMhz =>
    refine (decode_frame_op 0#3 _).trans ?_
    simp [decodeOp]
  | updateFrequency srcHz freqMhz slot =>
    refine (decode_frame_op 1#3 _).trans ?_
    simp [decodeOp, toNat_ofNat_of_slotFits hwf, -BitVec.toNat_ofNat]
  | updatePulseWidth srcHz widthUs slot =>
    refine (decode_frame_op 2#3 _).trans ?_
    simp [decodeOp, toNat_ofNat_of_slotFits hwf, -BitVec.toNat_ofNat]
  | enable on =>
    refine (decode_frame_op 3#3 _).trans ?_
    simp [decodeOp]
  | push cmd =>
    refine (decode_frame_op 4#3 _).trans ?_
    simp [decodeOp]
  | pop => exact decode_frame_op 5#3 rest
  | rpmToMhz rpm =>
    refine (decode_frame_op 6#3 _).trans ?_
    simp [decodeOp]
  | gateAccept => exact decode_frame_op 7#3 rest

theorem decodeWord_encode {i : Instr} (hwf : i.wf = true) : decodeWord (encode i) = .ok i := by
  have h : decode (encode i) = .ok (i, []) := by simpa using decode_encode hwf []
  simp [decodeWord, h]

/-- Settles O2: the instruction at the head of its own bytes, with no byte left over. -/
theorem encodeThenDecode : Obligations.EncodeThenDecode := fun _ => decodeWord_encode

/-- Settles O1: each of the written words is the encoding of what it spells. -/
theorem writtenCodesDecode : Obligations.WrittenCodesDecode :=
  ⟨decodeWord_encode (i := .tick) rfl, decodeWord_encode (i := .encB false) rfl,
    decodeWord_encode (i := .encB true) rfl, decodeWord_encode (i := .btn) rfl,
    decodeWord_encode (i := .sw .toOff) rfl, decodeWord_encode (i := .sw .toOn) rfl,
    decodeWord_encode (i := .tmr) rfl, decodeWord_encode (i := .encA) rfl, decodeWord_encode (i := .main) rfl,
    decodeWord_encode (i := .toggleOutput) rfl, decodeWord_encode (i := .applyPulseWidth) rfl,
    decodeWord_encode (i := .pop) rfl, decodeWord_encode (i := .rpmToMhz 6900#16) rfl⟩

end Sys2Proof

namespace Sys2Proof.Machine

/-! ## Reserved codes (R86) -/

theorem exists_eq_ok_iff_isOk {ε α : Type} {x : Except ε α} : (∃ a, x = .ok a) ↔ x.isOk = true := by
  cases x with
  | ok a => exact ⟨fun _ => rfl, fun _ => ⟨a, rfl⟩⟩
  | error e => exact ⟨nofun, nofun⟩

/-- The seven reserved event codes: kind 7, and an argument bit on a kind without argument. -/
def reservedEvents : List (BitVec 4) := [0b0001#4, 0b0101#4, 0b1001#4, 0b1011#4, 0b1101#4, 0b1110#4, 0b1111#4]

theorem decodeCmd_isOk_iff : ∀ c : BitVec 3, (decodeCmd c).isOk = true ↔ c ≠ 6#3 ∧ c ≠ 7#3 := by decide

theorem decodeEvt_isOk_iff : ∀ e : BitVec 4, (decodeEvt e).isOk = true ↔ e ∉ reservedEvents := by decide

theorem decodeEvt_of_reserved : ∀ e ∈ reservedEvents, decodeEvt e = .error (.reservedEvent e.toNat) := by decide

theorem decodeWord_evt_of_error {e : BitVec 4} {err : DecodeError} (h : decodeEvt e = .error err) :
    decodeWord [frame .evt e] = .error err := by
  simp [decodeWord, decode_frame_evt, h, Except.map]

theorem step_of_badWord {s : State} {ws : List Byte} {rest : List Stimulus} {err : DecodeError}
    (hrun : s.sys = .run) (htrace : s.trace = .word ws :: rest) (hdecode : decodeWord ws = .error err) :
    step s = .refused (.badWord err) := by
  simp [step, nextTurn, htrace, hrun, hdecode]

/-- Settles O3: the two code tables entry by entry; a trace word below the event nibble is what its code is. -/
theorem reservedCodesRejected : Obligations.ReservedCodesRejected :=
  ⟨fun c => exists_eq_ok_iff_isOk.trans (decodeCmd_isOk_iff c),
    fun e => exists_eq_ok_iff_isOk.trans (decodeEvt_isOk_iff e),
    fun _ _ e hrun he htrace => step_of_badWord hrun htrace (decodeWord_evt_of_error (decodeEvt_of_reserved e he))⟩

/-! ## DRAIN (R89, R235)

The measure is a bound on the services still to begin. At FETCH it is two per entry, and one less with ApplyFrequency
on top, which is what ToggleOutput leaves in its own place (R175). FETCH of a command lowers it, and no phase inside a
service raises it. -/

/-- The phase a phase writes, FETCH apart (R172 to R177). -/
def Phase.successor : Phase → Phase
  | .i1 => .i2
  | .i2 => .i3
  | .d1 => .d2
  | .d2 => .d3
  | .t1 => .t2
  | .t2 => .t3
  | .t3 => .t4
  | .t4 => .t5
  | .f1 => .f2
  | .f2 => .f3
  | .f3 => .f4
  | .f4 => .f5
  | .f5 => .f6
  | .w1 => .w2
  | _ => .fetch

/-- The MAIN steps to the end of the service. -/
def Phase.stepsLeft : Phase → Nat
  | .fetch => 0
  | .i3 | .d3 | .t5 | .f6 | .w2 => 1
  | .i2 | .d2 | .t4 | .f5 | .w1 => 2
  | .i1 | .d1 | .t3 | .f4 => 3
  | .t2 | .f3 => 4
  | .t1 | .f2 => 5
  | .f1 => 6

/-- A bound on the services that begin before the stack is empty, if no other agent steps. -/
def State.servicesLeft (s : State) : Nat :=
  match s.ml with
  | .fetch => if s.current = .applyFrequency then 2 * s.sz.val - 1 else 2 * s.sz.val
  | .t1 | .t2 | .t3 | .t4 => 2 * (s.sz.val - 1) + 1
  | .t5 => 2 * s.sz.val + 1
  | _ => 2 * (s.sz.val - 1)

theorem stepsLeft_successor {ml : Phase} (h : ml ≠ .fetch) : ml.successor.stepsLeft + 1 = ml.stepsLeft := by
  revert h
  cases ml <;> decide

theorem stepsLeft_le_six (ml : Phase) : ml.stepsLeft ≤ 6 := by cases ml <;> decide

theorem callUpdateFrequency_answers {srcHz freqMhz : Word32} {slot : Nat} {s : State}
    (hhandle : s.handleOk slot = true) (hslot : slot + 1 < s.slots.length) :
    ∃ t r, callUpdateFrequency srcHz freqMhz slot s = .next (t, r) := by
  simp only [callUpdateFrequency, hhandle, if_true, matchOf_of_lt hslot]
  split
  · exact ⟨_, _, rfl⟩
  · split
    · exact ⟨_, _, rfl⟩
    · exact ⟨_, _, rfl⟩

theorem callUpdatePulseWidth_answers {srcHz widthUs : Word32} {slot : Nat} {s : State}
    (hhandle : s.handleOk slot = true) (hslot : slot + 1 < s.slots.length) :
    ∃ t r, callUpdatePulseWidth srcHz widthUs slot s = .next (t, r) := by
  simp only [callUpdatePulseWidth, hhandle, if_true, matchOf_of_lt (Nat.lt_of_succ_lt hslot), State.hasSlot,
    hslot, decide_true]
  split
  · exact ⟨_, _, rfl⟩
  · split
    · exact ⟨_, _, rfl⟩
    · exact ⟨_, _, rfl⟩

/-! ### A MAIN step -/

/-- In RUN the channel is armed, so that the operations of F2 and W1 have their handle and its slots (R39, R233). -/
theorem runPhase_answers {s : State} (h : s.Inv) (hrun : s.sys = .run) : ∃ t, runPhase s = .next t := by
  have harmed := h.run_armed hrun
  obtain ⟨hwslot, hused, -⟩ := h.armed_channel harmed
  have hhandle : s.handleOk s.ch.pslot = true := by simp [State.handleOk, harmed]
  have hslot : s.ch.pslot + 1 < s.slots.length := by
    rw [h.slots_length]
    have := h.slotsUsed_le
    omega
  cases hml : s.ml <;> simp only [runPhase, hml]
  case f2 =>
    obtain ⟨t, r, hcall⟩ := callUpdateFrequency_answers hhandle hslot
    exact ⟨_, by rw [phaseF2, hcall, andThen]⟩
  case w1 =>
    obtain ⟨t, r, hcall⟩ := callUpdatePulseWidth_answers hhandle hslot
    exact ⟨_, by rw [phaseW1, hcall, andThen]⟩
  all_goals exact ⟨_, rfl⟩

theorem runPhase_ml {s t : State} (h : runPhase s = .next t) (hml : s.ml ≠ .fetch) : t.ml = s.ml.successor := by
  cases hphase : s.ml <;> simp only [runPhase, hphase, Host.Outcome.next.injEq] at h
  case fetch => exact absurd hphase hml
  case f2 | w1 =>
    obtain ⟨_, _, -, rfl⟩ := andThen_next h
    rfl
  all_goals subst h; rfl

theorem servicesLeft_of_fetch_le {s : State} (hml : s.ml = .fetch) : s.servicesLeft ≤ 2 * s.sz.val := by
  simp only [State.servicesLeft, hml]
  split <;> omega

theorem phaseT4_sz (s : State) : (phaseT4 s).sz.val = s.sz.val - 1 := rfl

/-- T5 puts ApplyFrequency on top; on a full stack it changes nothing, and a full stack is within the bound as well. -/
theorem phaseT5_servicesLeft (s : State) : (phaseT5 s).servicesLeft ≤ 2 * s.sz.val + 1 := by
  by_cases hroom : s.sz.val < 8
  · have hcur : (phaseT5 s).current = .applyFrequency := push_current_of_room _ hroom
    have hsz : (phaseT5 s).sz.val = s.sz.val + 1 := push_sz_of_room _ hroom
    have hleft : (phaseT5 s).servicesLeft = 2 * (phaseT5 s).sz.val - 1 := if_pos hcur
    omega
  · have hsz : (phaseT5 s).sz.val = s.sz.val := by
      simp [phaseT5, push_of_full .applyFrequency (by omega : s.sz.val = 8)]
    have hle : (phaseT5 s).servicesLeft ≤ 2 * (phaseT5 s).sz.val := servicesLeft_of_fetch_le rfl
    omega

/-- Inside a service: every phase that removes the entry writes FETCH next, but T4, whose entry T5 replaces. -/
theorem runPhase_servicesLeft {s t : State} (h : runPhase s = .next t) (hml : s.ml ≠ .fetch) :
    t.servicesLeft ≤ s.servicesLeft := by
  have hnext := runPhase_ml h hml
  have hsz : s.ml ∉ [.i3, .d3, .t4, .t5, .f6, .w2] → t.sz = s.sz := by
    obtain ⟨-, -, -, -, -, -, -, hsz, -⟩ := (runPhase_effect h).frame
    exact hsz
  cases hphase : s.ml <;>
    simp only [runPhase, hphase, Host.Outcome.next.injEq, Phase.successor] at h hnext hsz
  case fetch => exact absurd hphase hml
  case t4 =>
    subst h
    simp [State.servicesLeft, hphase, hnext, phaseT4_sz]
  case t5 =>
    subst h
    simpa [State.servicesLeft, hphase] using phaseT5_servicesLeft s
  case i3 | d3 | f6 | w2 =>
    subst h
    refine (servicesLeft_of_fetch_le hnext).trans ?_
    simp [State.servicesLeft, hphase, phaseI3, phaseD3, phaseF6, phaseW2]
  all_goals simp [State.servicesLeft, hphase, hnext, hsz]

/-- FETCH of a command begins a service, one of those that were left. -/
theorem phaseFetch_servicesLeft {s : State} (h : s.NoNoneOnStack) (hml : s.ml = .fetch) (hsz : 0 < s.sz.val) :
    (phaseFetch s).ml ≠ .fetch ∧ (phaseFetch s).servicesLeft < s.servicesLeft := by
  have hcur : s.current ≠ .none := by
    rw [current_of_nonempty hsz]
    exact h ⟨s.sz.val - 1, by omega⟩ (Nat.sub_lt hsz Nat.one_pos)
  cases hc : s.current
  case none => exact absurd hc hcur
  all_goals
    refine ⟨by simp [phaseFetch, hc, firstPhase], ?_⟩
    simp only [State.servicesLeft, phaseFetch, hml, hc, firstPhase, reduceCtorEq, reduceIte]
    omega

/-! ### A service, and DRAIN -/

/-- What a MAIN step keeps, and what makes it possible. -/
structure State.Draining (s : State) : Prop where
  inv : s.Inv
  noNone : s.NoNoneOnStack
  running : s.sys = .run

theorem State.Draining.main {s : State} (h : s.Draining) :
    ∃ t, exec .main s = .next t ∧ runPhase s = .next t ∧ t.Draining := by
  obtain ⟨t, hphase⟩ := runPhase_answers h.inv h.running
  have hexec : exec .main s = .next t := (whenRunning_run _ h.running).trans hphase
  obtain ⟨hsys, -⟩ := noInstructionWritesSysOrConfiguration s t .main hexec
  exact ⟨t, hexec, hphase, exec_keeps_inv h.inv h.running hexec, exec_keeps_noNone h.noNone (by decide) hexec,
    hsys.trans h.running⟩

theorem serviceWithin_succ {s t : State} (hexec : exec .main s = .next t) (n : Nat) :
    serviceWithin (n + 1) s = if t.ml = .fetch then .next t else serviceWithin n t := by
  simp [serviceWithin, hexec, thenStep]

/-- A service under way ends at FETCH within its MAIN steps. -/
theorem State.Draining.serviceWithin_ends {n : Nat} {s : State} (h : s.Draining) (hml : s.ml ≠ .fetch)
    (hn : s.ml.stepsLeft ≤ n) :
    ∃ t, serviceWithin n s = .next t ∧ t.Draining ∧ t.ml = .fetch ∧ t.servicesLeft ≤ s.servicesLeft := by
  induction n generalizing s with
  | zero =>
    have hsteps := stepsLeft_successor hml
    omega
  | succ n ih =>
    obtain ⟨t, hexec, hphase, ht⟩ := h.main
    have hle := runPhase_servicesLeft hphase hml
    rw [serviceWithin_succ hexec]
    by_cases hend : t.ml = .fetch
    · exact ⟨t, if_pos hend, ht, hend, hle⟩
    · have hsteps := stepsLeft_successor hml
      rw [← runPhase_ml hphase hml] at hsteps
      obtain ⟨u, hu, hdrain, hfetch, hle'⟩ := ih ht hend (by omega)
      exact ⟨u, (if_neg hend).trans hu, hdrain, hfetch, hle'.trans hle⟩

/-- A service of the current command of a non-empty stack lowers the bound. -/
theorem State.Draining.service_ends {s : State} (h : s.Draining) (hml : s.ml = .fetch) (hsz : 0 < s.sz.val) :
    ∃ t, service s = .next t ∧ t.Draining ∧ t.ml = .fetch ∧ t.servicesLeft < s.servicesLeft := by
  obtain ⟨u, hexec, hphase, hu⟩ := h.main
  obtain rfl : phaseFetch s = u := by simpa [runPhase, hml] using hphase
  obtain ⟨hbusy, hlt⟩ := phaseFetch_servicesLeft h.noNone hml hsz
  obtain ⟨t, ht, hdrain, hfetch, hle⟩ := hu.serviceWithin_ends hbusy (stepsLeft_le_six _)
  refine ⟨t, ?_, hdrain, hfetch, by omega⟩
  rw [service, longestService, serviceWithin_succ hexec, if_neg hbusy, ht]

theorem State.Draining.drain_empties {n : Nat} {s : State} (h : s.Draining) (hml : s.ml = .fetch)
    (hn : s.servicesLeft ≤ n) :
    ∃ t, drain n s = .next t ∧ t.ml = .fetch ∧ t.sz.val = 0 := by
  induction n generalizing s with
  | zero =>
    refine ⟨s, rfl, hml, ?_⟩
    simp only [State.servicesLeft, hml] at hn
    split at hn <;> omega
  | succ n ih =>
    by_cases hsz : s.sz.val = 0
    · exact ⟨s, by simp [drain, quiescent, hml, hsz], hml, hsz⟩
    · obtain ⟨t, hservice, ht, hfetch, hlt⟩ := h.service_ends hml (by omega)
      obtain ⟨u, hu, hempty⟩ := ih ht hfetch (by omega)
      exact ⟨u, by simp [drain, quiescent, hsz, hservice, thenStep, hu], hempty⟩

/-- Settles O47: two services per entry are within the bound. -/
theorem drainEmptiesTheStack : Obligations.DrainEmptiesTheStack :=
  fun _ hinv hnoNone hrun hml =>
    State.Draining.drain_empties ⟨hinv, hnoNone, hrun⟩ hml (servicesLeft_of_fetch_le hml)

end Sys2Proof.Machine

/-! # Proofs of the family 40_pulse_generator: tick counts, the operations and the timer -/

namespace Sys2Proof.Machine

/-! ## Tick counts (R102, R104, R105) -/

theorem periodTicksOf_eq_none {c : Config} {srcHz freqMhz : Word32} :
    periodTicksOf c srcHz freqMhz = none ↔
      freqMhz.toNat = 0 ∨ sctClock c srcHz * 1000 / freqMhz.toNat = 0 ∨
        2 ^ c.counterW + 1 ≤ sctClock c srcHz * 1000 / freqMhz.toNat := by
  unfold periodTicksOf
  dsimp only
  generalize sctClock c srcHz * 1000 / freqMhz.toNat = q
  split
  · simp [*]
  · split
    · simp [*]
    · split
      · simp; omega
      · simp; omega

theorem pulseTicksOf_eq_none {c : Config} {srcHz widthUs : Word32} :
    pulseTicksOf c srcHz widthUs = none ↔ 2 ^ c.counterW ≤ widthUs.toNat * sctClock c srcHz / 1000000 := by
  simp [pulseTicksOf]

/-- The period as a truncated quotient, without a division. -/
theorem periodTicksOf_bounds {c : Config} {srcHz freqMhz : Word32} {p : Nat}
    (h : periodTicksOf c srcHz freqMhz = some p) :
    (p + 1) * freqMhz.toNat ≤ sctClock c srcHz * 1000 ∧ sctClock c srcHz * 1000 < (p + 2) * freqMhz.toNat ∧
      p < 2 ^ c.counterW := by
  obtain ⟨hpos, hquotient, hfits⟩ := periodTicksOf_eq_some.1 h
  exact ⟨(Nat.le_div_iff_mul_le hpos).1 hquotient.ge, (Nat.div_lt_iff_lt_mul hpos).1 (by omega), hfits⟩

/-- The pulse as a truncated quotient, without a division. -/
theorem pulseTicksOf_bounds {c : Config} {srcHz widthUs : Word32} {w : Nat}
    (h : pulseTicksOf c srcHz widthUs = some w) :
    w * 1000000 ≤ widthUs.toNat * sctClock c srcHz ∧ widthUs.toNat * sctClock c srcHz < (w + 1) * 1000000 ∧
      w < 2 ^ c.counterW := by
  obtain ⟨hquotient, hfits⟩ := pulseTicksOf_eq_some.1 h
  exact ⟨by omega, by omega, hfits⟩

/-- No period: a frequency of 0, one above the clock, or a period beyond the counter. -/
theorem periodTicksOf_eq_none_iff_bounds {c : Config} {srcHz freqMhz : Word32} :
    periodTicksOf c srcHz freqMhz = none ↔
      freqMhz.toNat = 0 ∨ sctClock c srcHz * 1000 < freqMhz.toNat ∨
        (2 ^ c.counterW + 1) * freqMhz.toNat ≤ sctClock c srcHz * 1000 := by
  rw [periodTicksOf_eq_none]
  rcases Nat.eq_zero_or_pos freqMhz.toNat with hzero | hpos
  · simp [hzero]
  · rw [Nat.div_eq_zero_iff_lt hpos, Nat.le_div_iff_mul_le hpos]

theorem pulseTicksOf_eq_none_iff_bounds {c : Config} {srcHz widthUs : Word32} :
    pulseTicksOf c srcHz widthUs = none ↔ 2 ^ c.counterW * 1000000 ≤ widthUs.toNat * sctClock c srcHz :=
  pulseTicksOf_eq_none.trans (Nat.le_div_iff_mul_le (by decide))

/-- Settles O29: each count by the bounds of its quotient; `clock` is the effective clock of R102. -/
theorem tickCountsAreTruncatedQuotients : Obligations.TickCountsAreTruncatedQuotients := by
  rintro c srcHz freqMhz widthUs _ rfl
  exact ⟨fun _ => periodTicksOf_bounds, periodTicksOf_eq_none_iff_bounds,
    fun _ => pulseTicksOf_bounds, pulseTicksOf_eq_none_iff_bounds⟩

/-! ## The operations, one equation per outcome (R106 to R111) -/

section Outcomes

variable {s : State} {srcHz freqMhz widthUs : Word32} {slot period width : Nat}

theorem callSetup_of_live (h : s.halt = false ∨ s.ch.armed = true) :
    callSetup widthUs srcHz freqMhz s = .refused .setupOutsidePrecondition := if_pos h

theorem callSetup_of_no_ticks (hhalt : s.halt = true) (harmed : s.ch.armed = false)
    (h : ¬ ∃ period width, periodTicksOf s.cfg srcHz freqMhz = some period ∧
      pulseTicksOf s.cfg srcHz widthUs = some width ∧ width < period) :
    callSetup widthUs srcHz freqMhz s = .next (s, .err .invalidArgument) := by
  rw [callSetup, if_neg (by simp [hhalt, harmed])]
  cases hperiod : periodTicksOf s.cfg srcHz freqMhz with
  | none => rfl
  | some period =>
    cases hwidth : pulseTicksOf s.cfg srcHz widthUs with
    | none => rfl
    | some width => exact if_pos (Nat.le_of_not_lt fun hlt => h ⟨period, width, hperiod, hwidth, hlt⟩)

theorem callSetup_of_no_slots (hhalt : s.halt = true) (harmed : s.ch.armed = false)
    (hperiod : periodTicksOf s.cfg srcHz freqMhz = some period)
    (hwidth : pulseTicksOf s.cfg srcHz widthUs = some width) (hlt : width < period)
    (hfree : s.cfg.nEventSlots - s.slotsUsed < 2) :
    callSetup widthUs srcHz freqMhz s = .next (s, .err .resourceExhausted) := by
  simp [callSetup, hhalt, harmed, hperiod, hwidth, hlt, slotsPerChannel, hfree]

theorem callSetup_of_accepted (hhalt : s.halt = true) (harmed : s.ch.armed = false)
    (hperiod : periodTicksOf s.cfg srcHz freqMhz = some period)
    (hwidth : pulseTicksOf s.cfg srcHz widthUs = some width) (hlt : width < period)
    (hfree : s.slotsUsed + 2 ≤ s.cfg.nEventSlots) (hslots : s.slots.length = s.cfg.nEventSlots) :
    callSetup widthUs srcHz freqMhz s = .next ({ s with
      out := .inactive, slotsUsed := s.slotsUsed + 2,
      slots := (s.slots.set s.slotsUsed ⟨period, period⟩).set (s.slotsUsed + 1) ⟨width, width⟩,
      ch := ⟨true, s.slotsUsed, s.slotsUsed + 1⟩ }, .slot s.slotsUsed) := by
  have hroom : ¬ s.cfg.nEventSlots - s.slotsUsed < slotsPerChannel := by
    rw [slotsPerChannel]
    omega
  have hslot : s.hasSlot (s.slotsUsed + 1) = true := decide_eq_true (by omega)
  simp only [callSetup, hhalt, harmed, hperiod, hwidth, Nat.not_le_of_lt hlt, hroom, hslot, reduceCtorEq, or_self,
    if_false, if_true]
  rfl

theorem handleOk_iff : s.handleOk slot = true ↔ s.ch.armed = true ∧ slot = s.ch.pslot := by
  simp [State.handleOk]

theorem not_handleOk_of_foreign (h : s.ch.armed = false ∨ slot ≠ s.ch.pslot) : ¬ s.handleOk slot = true := by
  rw [handleOk_iff]
  rintro ⟨harmed, hslot⟩
  simp [harmed, hslot] at h

theorem callUpdateFrequency_of_foreign (h : s.ch.armed = false ∨ slot ≠ s.ch.pslot) :
    callUpdateFrequency srcHz freqMhz slot s = .refused (.foreignHandle slot) :=
  if_neg (not_handleOk_of_foreign h)

theorem callUpdateFrequency_of_no_period (hhandle : s.handleOk slot = true)
    (hperiod : periodTicksOf s.cfg srcHz freqMhz = none) :
    callUpdateFrequency srcHz freqMhz slot s = .next (s, .err .invalidArgument) := by
  simp [callUpdateFrequency, hhandle, hperiod]

theorem callUpdateFrequency_of_period (hhandle : s.handleOk slot = true)
    (hperiod : periodTicksOf s.cfg srcHz freqMhz = some period) (hwidth : s.matchOf (slot + 1) = some width) :
    callUpdateFrequency srcHz freqMhz slot s =
      if period ≤ width then .next (s, .err .invalidArgument) else .next (bracketWrite slot period s, .ok) := by
  simp [callUpdateFrequency, hhandle, hperiod, hwidth]

theorem callUpdatePulseWidth_of_foreign (h : s.ch.armed = false ∨ slot ≠ s.ch.pslot) :
    callUpdatePulseWidth srcHz widthUs slot s = .refused (.foreignHandle slot) :=
  if_neg (not_handleOk_of_foreign h)

theorem callUpdatePulseWidth_of_no_pulse (hhandle : s.handleOk slot = true)
    (hwidth : pulseTicksOf s.cfg srcHz widthUs = none) :
    callUpdatePulseWidth srcHz widthUs slot s = .next (s, .err .invalidArgument) := by
  simp [callUpdatePulseWidth, hhandle, hwidth]

theorem callUpdatePulseWidth_of_pulse (hhandle : s.handleOk slot = true)
    (hwidth : pulseTicksOf s.cfg srcHz widthUs = some width) (hperiod : s.matchOf slot = some period)
    (hslot : slot + 1 < s.slots.length) :
    callUpdatePulseWidth srcHz widthUs slot s =
      if period ≤ width then .next (s, .err .invalidArgument)
      else .next (bracketWrite (slot + 1) width s, .ok) := by
  simp [callUpdatePulseWidth, hhandle, hwidth, hperiod, State.hasSlot, hslot]

end Outcomes

/-- What is left of an update's two answers, by its test `p`, in a call from outside. -/
theorem recordResult_bracketWrite (p : Prop) [Decidable p] (k v : Nat) (s : State) :
    recordResult (if p then .next (s, .err .invalidArgument) else .next (bracketWrite k v s, .ok)) =
      if p then .next { s with history := .returned (.err .invalidArgument) :: s.history }
      else .next { s with
        halt := false, out := .inactive, slots := s.slots.set k ⟨v, v⟩, history := .returned .ok :: s.history } := by
  split <;> rfl

/-- Settles O24: the accepted outcome of `setup`, its result noted. -/
theorem setupProgramsTheChannel : Obligations.SetupProgramsTheChannel :=
  fun _ _ _ _ _ _ hhalt harmed hslots hperiod hwidth hlt hfree =>
    congrArg recordResult (callSetup_of_accepted hhalt harmed hperiod hwidth hlt hfree hslots)

/-- Settles O25: the refusal and the two errors, in the order in which `setup` looks for them. -/
theorem setupRejectsOrIsRefused : Obligations.SetupRejectsOrIsRefused :=
  fun _ _ _ _ => ⟨fun hlive => congrArg recordResult (callSetup_of_live hlive), fun hhalt harmed =>
    ⟨fun hticks => congrArg recordResult (callSetup_of_no_ticks hhalt harmed hticks),
      fun _ _ hperiod hwidth hlt hfree =>
        congrArg recordResult (callSetup_of_no_slots hhalt harmed hperiod hwidth hlt hfree)⟩⟩

/-- Settles O26: the three outcomes of `update_frequency`, the last one by its test. -/
theorem updateFrequencyOutcomes : Obligations.UpdateFrequencyOutcomes := by
  refine fun s srcHz freqMhz slot =>
    ⟨fun hforeign => congrArg recordResult (callUpdateFrequency_of_foreign hforeign), fun harmed hslot => ?_⟩
  have hhandle := handleOk_iff.2 ⟨harmed, hslot⟩
  exact ⟨fun hperiod => congrArg recordResult (callUpdateFrequency_of_no_period hhandle hperiod),
    fun period width hperiod hwidth =>
      (congrArg recordResult (callUpdateFrequency_of_period hhandle hperiod hwidth)).trans
        (recordResult_bracketWrite (period ≤ width) slot period s)⟩

/-- Settles O27: the three outcomes of `update_pulse_width`, the last one by its test. -/
theorem updatePulseWidthOutcomes : Obligations.UpdatePulseWidthOutcomes := by
  refine fun s srcHz widthUs slot =>
    ⟨fun hforeign => congrArg recordResult (callUpdatePulseWidth_of_foreign hforeign), fun harmed hslot => ?_⟩
  have hhandle := handleOk_iff.2 ⟨harmed, hslot⟩
  exact ⟨fun hwidth => congrArg recordResult (callUpdatePulseWidth_of_no_pulse hhandle hwidth),
    fun period width hwidth hperiod hlen =>
      (congrArg recordResult (callUpdatePulseWidth_of_pulse hhandle hwidth hperiod hlen)).trans
        (recordResult_bracketWrite (period ≤ width) (slot + 1) width s)⟩

theorem enable_enable (on : Bool) (s : State) : enable on (enable on s) = enable on s := by
  cases on <;> rfl

/-- Settles O28: each of the two is a write of constants, so that the second call finds them written. -/
theorem enableGatesTheCounter : Obligations.EnableGatesTheCounter :=
  fun s => ⟨rfl, rfl, fun on => congrArg Host.Outcome.next (enable_enable on s)⟩

/-- Settles O59: R8 gives the period, above the fixed width, which is the pulse that F2 reads beside the period slot. -/
theorem wellFormedAcceptsEverySpeed : Obligations.WellFormedAcceptsEverySpeed := by
  intro s hinv hwf hrun hml hprogrammed
  have harmed := hinv.run_armed hrun
  obtain ⟨hwslot, -, -⟩ := hinv.armed_channel harmed
  obtain ⟨-, width, -, hboot, -⟩ := hwf.bootAccepted
  obtain ⟨hmin, hmax⟩ := hinv.cmdRpm_range
  obtain ⟨period, hperiod, hlt⟩ := hwf.rpmAccepted width hboot s.cmdRpm hmin hmax
  have hwidth : s.matchOf (s.ch.pslot + 1) = some width := by rw [← hwslot, hprogrammed, hboot]
  have hcall := callUpdateFrequency_of_period (handleOk_iff.2 ⟨harmed, rfl⟩) hperiod hwidth
  rw [if_neg (Nat.not_le_of_lt hlt)] at hcall
  refine ⟨period, hperiod, ?_⟩
  rw [exec_main, execMain, whenRunning_run _ hrun, runPhase, hml]
  exact congrArg (andThen · _) hcall

/-! ## What an answered operation did (R115, R117) -/

/-- The states in which the three operations can end: rejected, an allocation by `setup`, or an admitted write by an
update. -/
inductive OperationEffect (s : State) : State → Prop
  | rejected {e : Err} : OperationEffect s (record (.returned (.err e)) s)
  | setUp {period width : Nat} (hlt : width < period) (hslot : s.slotsUsed + 1 < s.slots.length) :
      OperationEffect s { s with
        slotsUsed := s.slotsUsed + 2, out := .inactive,
        slots := (s.slots.set s.slotsUsed ⟨period, period⟩).set (s.slotsUsed + 1) ⟨width, width⟩,
        ch := ⟨true, s.slotsUsed, s.slotsUsed + 1⟩,
        history := .returned (.slot s.slotsUsed) :: s.history }
  | updated {k v : Nat} (hkv : s.Admits k v) : OperationEffect s (record (.returned .ok) (bracketWrite k v s))

theorem execSetup_effect {s t : State} {widthUs srcHz freqMhz : Word32}
    (h : execSetup widthUs srcHz freqMhz s = .next t) : OperationEffect s t := by
  obtain ⟨u, r, hcall, rfl⟩ := andThen_next h
  obtain ⟨-, -, ⟨rfl, e, rfl⟩ | ⟨_, _, -, -, hlt, -, hslot, rfl, rfl⟩⟩ := callSetup_next hcall
  · exact .rejected
  · exact .setUp hlt hslot

theorem execUpdateFrequency_effect {s t : State} {srcHz freqMhz : Word32} {slot : Nat}
    (h : execUpdateFrequency srcHz freqMhz slot s = .next t) : OperationEffect s t := by
  obtain ⟨u, r, hcall, rfl⟩ := andThen_next h
  obtain ⟨harmed, rfl, ⟨rfl, rfl⟩ | ⟨_, width, hperiod, hwidth, hlt, rfl, rfl⟩⟩ := callUpdateFrequency_next hcall
  · exact .rejected
  · obtain ⟨-, -, hfits⟩ := periodTicksOf_eq_some.1 hperiod
    exact .updated ⟨harmed, hfits, .inl ⟨rfl, width, hwidth, hlt⟩⟩

theorem execUpdatePulseWidth_effect {s t : State} {srcHz widthUs : Word32} {slot : Nat}
    (h : execUpdatePulseWidth srcHz widthUs slot s = .next t) : OperationEffect s t := by
  obtain ⟨u, r, hcall, rfl⟩ := andThen_next h
  obtain ⟨harmed, rfl, ⟨rfl, rfl⟩ | ⟨period, _, hwidth, hperiod, hlt, -, rfl, rfl⟩⟩ := callUpdatePulseWidth_next hcall
  · exact .rejected
  · obtain ⟨-, hfits⟩ := pulseTicksOf_eq_some.1 hwidth
    exact .updated ⟨harmed, hfits, .inr ⟨rfl, period, hperiod, hlt⟩⟩

theorem operationEffect_of_exec {s t : State} {i : Instr}
    (hi : (∃ w f h, i = .setup w f h) ∨ (∃ f h k, i = .updateFrequency f h k) ∨ ∃ f w k, i = .updatePulseWidth f w k)
    (h : exec i s = .next t) : OperationEffect s t := by
  obtain ⟨_, _, _, rfl⟩ | ⟨_, _, _, rfl⟩ | ⟨_, _, _, rfl⟩ := hi
  · exact execSetup_effect h
  · exact execUpdateFrequency_effect h
  · exact execUpdatePulseWidth_effect h

/-- Settles O30: the history tells a rejection from the two ways to accept. -/
theorem rejectionChangesNothing : Obligations.RejectionChangesNothing := by
  intro s t i e hi h hhistory
  cases operationEffect_of_exec hi h with
  | rejected => rfl
  | setUp => simp at hhistory
  | updated => simp at hhistory

/-- An admitted write leaves the pulse below the period, whatever the run state, which the channel invariant does not
read (R39). -/
theorem pulseBelowPeriod_bracketWrite {s : State} (h : s.Inv) {k v : Nat} (hkv : s.Admits k v) :
    (bracketWrite k v s).PulseBelowPeriod := by
  have harmed : s.ch.armed = true := hkv.1
  have hrunning : ({ s with sys := .run } : State).Inv :=
    { h with run_armed := fun _ => harmed, unset_unarmed := nofun }
  obtain ⟨-, -, hbelow⟩ := (inv_bracketWrite hrunning rfl hkv).armed_channel harmed
  exact hbelow

/-- Settles O31: `setup` compares the two counts that it writes, an update its own with the programmed one. -/
theorem acceptedOperationKeepsPulseBelowPeriod : Obligations.AcceptedOperationKeepsPulseBelowPeriod := by
  intro s t i hinv hi h haccepted
  cases operationEffect_of_exec hi h with
  | rejected => exact absurd rfl (haccepted _)
  | setUp hlt hslot =>
    exact ⟨rfl, _, _, by simp [State.matchOf, hslot],
      by simp [State.matchOf, Nat.lt_of_succ_lt hslot], hlt⟩
  | updated hkv => exact ⟨hkv.1, pulseBelowPeriod_bracketWrite hinv hkv⟩

/-! ## Frames of the operations (R106 to R111, R140 to R143, R178) -/

theorem callSetup_slots {widthUs srcHz freqMhz : Word32} {s t : State} {r : Returned}
    (h : callSetup widthUs srcHz freqMhz s = .next (t, r)) {k : Nat} (hperiod : k ≠ s.slotsUsed)
    (hwidth : k ≠ s.slotsUsed + 1) : t.slots[k]? = s.slots[k]? := by
  obtain ⟨-, -, ⟨rfl, -⟩ | ⟨_, _, -, -, -, -, -, -, rfl⟩⟩ := callSetup_next h
  · rfl
  · simp [List.getElem?_set_ne, hperiod.symm, hwidth.symm]

theorem execSetup_frame {widthUs srcHz freqMhz : Word32} {s t : State}
    (h : execSetup widthUs srcHz freqMhz s = .next t) :
    t = { s with slotsUsed := t.slotsUsed, out := t.out, slots := t.slots, ch := t.ch, history := t.history } ∧
      ∀ k, k ≠ s.slotsUsed → k ≠ s.slotsUsed + 1 → t.slots[k]? = s.slots[k]? := by
  obtain ⟨u, r, hcall, rfl⟩ := andThen_next h
  refine ⟨?_, fun k => callSetup_slots hcall⟩
  rw [callSetup_frame hcall]
  rfl

/-- What a write in the bracket around slot `k` leaves unchanged, and so an update operation on that slot. -/
def State.KeptButSlot (s t : State) (k : Nat) : Prop :=
  t = { s with halt := t.halt, out := t.out, slots := t.slots, history := t.history } ∧
    ∀ j, j ≠ k → t.slots[j]? = s.slots[j]?

theorem keptButSlot_record (r : Returned) (k : Nat) (s : State) : s.KeptButSlot (record (.returned r) s) k :=
  ⟨rfl, fun _ _ => rfl⟩

theorem keptButSlot_bracketWrite (r : Returned) (k v : Nat) (s : State) :
    s.KeptButSlot (record (.returned r) (bracketWrite k v s)) k :=
  ⟨rfl, fun _ hj => List.getElem?_set_ne hj.symm⟩

theorem execUpdateFrequency_frame {srcHz freqMhz : Word32} {slot : Nat} {s t : State}
    (h : execUpdateFrequency srcHz freqMhz slot s = .next t) : s.KeptButSlot t s.ch.pslot := by
  obtain ⟨u, r, hcall, rfl⟩ := andThen_next h
  obtain ⟨-, rfl, ⟨rfl, -⟩ | ⟨_, _, -, -, -, -, rfl⟩⟩ := callUpdateFrequency_next hcall
  · exact keptButSlot_record _ _ _
  · exact keptButSlot_bracketWrite _ _ _ _

theorem execUpdatePulseWidth_frame {srcHz widthUs : Word32} {slot : Nat} {s t : State}
    (h : execUpdatePulseWidth srcHz widthUs slot s = .next t) : s.KeptButSlot t (s.ch.pslot + 1) := by
  obtain ⟨u, r, hcall, rfl⟩ := andThen_next h
  obtain ⟨-, rfl, ⟨rfl, -⟩ | ⟨_, _, -, -, -, -, -, rfl⟩⟩ := callUpdatePulseWidth_next hcall
  · exact keptButSlot_record _ _ _
  · exact keptButSlot_bracketWrite _ _ _ _

/-- Every entry but the one above the top keeps its bits (R140). -/
theorem push_getElem_ne (c : Command) (s : State) {k : Fin 8} (hk : k.val ≠ s.sz.val) :
    (push c s).stk[k] = s.stk[k] := by
  by_cases hroom : s.sz.val < 8
  · rw [push_stk_of_room c hroom]
    exact Vector.getElem_set_ne _ _ hk.symm
  · rw [push_of_full c (by omega)]
    rfl

theorem gateAccept_frame (s : State) : (gateAccept s).1 = { s with gateLast := (gateAccept s).1.gateLast } := by
  unfold gateAccept
  split <;> rfl

/-- Settles O52: the frame of each operation; those without a lemma above compute to their named writes. -/
theorem operationsTouchWhatTheyName : Obligations.OperationsTouchWhatTheyName := by
  intro s t i h
  refine ⟨?setup, ?updateFrequency, ?updatePulseWidth, ?enable, ?push, ?pop, ?rpmToMhz, ?gateAccept⟩
  case setup =>
    rintro ⟨_, _, _, rfl⟩
    exact execSetup_frame h
  case updateFrequency =>
    rintro ⟨_, _, _, rfl⟩
    exact execUpdateFrequency_frame h
  case updatePulseWidth =>
    rintro ⟨_, _, _, rfl⟩
    exact execUpdatePulseWidth_frame h
  case enable =>
    rintro ⟨on, rfl⟩
    cases h
    exact enable_frame on s
  case push =>
    rintro ⟨c, rfl⟩
    cases h
    exact ⟨push_frame c s, fun _ => push_getElem_ne c s⟩
  case pop =>
    rintro rfl
    cases h
    rfl
  case rpmToMhz =>
    rintro ⟨_, rfl⟩
    cases h
    rfl
  case gateAccept =>
    rintro rfl
    cases h
    rw [gateAccept_frame]
    rfl

/-! ## The timer (R112, R113, D16, D19) -/

theorem execTmr_of_halted {s : State} (hhalt : s.halt = true) : execTmr s = .next s := by
  simp [execTmr, hhalt]

theorem execTmr_of_running {s : State} (hrun : s.sys = .run) (hhalt : s.halt = false) : execTmr s = timerTick s :=
  if_pos ⟨hrun, hhalt⟩

theorem timerTick_of_unarmed {s : State} (harmed : s.ch.armed = false) : timerTick s = .next (advanceCount s) := by
  simp [timerTick, harmed]

theorem timerTick_of_armed {s : State} {period width : Nat} (harmed : s.ch.armed = true)
    (hperiod : s.matchOf s.ch.pslot = some period) (hwidth : s.matchOf s.ch.wslot = some width) :
    timerTick s =
      if s.count = period then .next (reload { s with out := .active, count := 0 })
      else if s.count = width then .next (advanceCount (forceInactive s))
      else .next (advanceCount s) := by
  simp [timerTick, harmed, hperiod, hwidth]

/-- Settles O16: the guard of the event, then the cases of the counter. -/
theorem timerTickByCase : Obligations.TimerTickByCase :=
  fun _ hrun => ⟨execTmr_of_halted,
    fun hhalt harmed => (execTmr_of_running hrun hhalt).trans (timerTick_of_unarmed harmed),
    fun _ _ hhalt harmed hperiod hwidth =>
      (execTmr_of_running hrun hhalt).trans (timerTick_of_armed harmed hperiod hwidth)⟩

/-! ## Traces of one event, taken from their end (R88, R89) -/

theorem runTrace_append (is js : List Instr) (s : State) :
    runTrace (is ++ js) s = thenStep (runTrace is s) (runTrace js) := by
  induction is generalizing s with
  | nil => rfl
  | cons i is ih =>
    rw [List.cons_append, runTrace, runTrace]
    cases exec i s with
    | next t => exact ih t
    | fault f => rfl
    | refused r => rfl

/-- One more event after a run that answers `t`. -/
theorem runTrace_repeated_succ {i : Instr} {n : Nat} {s t : State} (h : runTrace (repeated i n) s = .next t) :
    runTrace (repeated i (n + 1)) s = exec i t := by
  rw [repeated, List.replicate_succ', runTrace_append, ← repeated, h]
  simp only [thenStep, runTrace]
  cases exec i t <;> rfl

/-! ## One cycle of the waveform (R114) -/

/-- The state `n` ticks after a rollover into `s`, within the cycle. -/
def waveAt (s : State) (width n : Nat) : State := { s with count := n, out := if n ≤ width then .active else .inactive }

section Cycle

variable {s : State} {period width n : Nat} (hrun : s.sys = .run) (hhalt : s.halt = false)
  (harmed : s.ch.armed = true) (hperiod : s.matchOf s.ch.pslot = some period)
  (hwidth : s.matchOf s.ch.wslot = some width)

include hrun hhalt harmed hperiod hwidth

theorem exec_tmr_waveAt : exec .tmr (waveAt s width n) =
    if n = period then .next (reload { s with out := .active, count := 0 })
    else if n = width then .next (advanceCount (forceInactive (waveAt s width n)))
    else .next (advanceCount (waveAt s width n)) :=
  (execTmr_of_running (s := waveAt s width n) hrun hhalt).trans
    (timerTick_of_armed (s := waveAt s width n) harmed hperiod hwidth)

/-- Below the period a tick counts up, and at the width it ends the pulse. -/
theorem exec_tmr_waveAt_of_lt (hn : n < period) (hfits : period < 2 ^ s.cfg.counterW) :
    exec .tmr (waveAt s width n) = .next (waveAt s width (n + 1)) := by
  have hcount : (n + 1) % 2 ^ s.cfg.counterW = n + 1 := Nat.mod_eq_of_lt (by omega)
  rw [exec_tmr_waveAt hrun hhalt harmed hperiod hwidth, if_neg hn.ne]
  split
  · subst n
    simp [waveAt, advanceCount, forceInactive, hcount]
  · have hline : n + 1 ≤ width ↔ n ≤ width := by omega
    simp [waveAt, advanceCount, hcount, hline]

theorem runTrace_tmr_waveAt (hstart : waveAt s width 0 = s) (hfits : period < 2 ^ s.cfg.counterW)
    (hn : n ≤ period) : runTrace (repeated .tmr n) s = .next (waveAt s width n) := by
  induction n with
  | zero => rw [hstart]; rfl
  | succ n ih =>
    rw [runTrace_repeated_succ (ih (by omega))]
    exact exec_tmr_waveAt_of_lt hrun hhalt harmed hperiod hwidth hn hfits

end Cycle

/-- Settles O17: tick by tick up to the period, where the next tick is the rollover; its reload changes nothing. -/
theorem waveformOfOneCycle : Obligations.WaveformOfOneCycle := by
  intro s period width hrun hhalt harmed hperiod hwidth _ hfits hequal hcount hout
  have hrestart : { s with out := .active, count := 0 } = s := by rw [← hcount, ← hout]
  have hstart : waveAt s width 0 = s := by simpa [waveAt] using hrestart
  have hwave (n : Nat) (hn : n ≤ period) := runTrace_tmr_waveAt hrun hhalt harmed hperiod hwidth hstart hfits hn
  refine ⟨hwave, ?_⟩
  rw [runTrace_repeated_succ (hwave period le_rfl), exec_tmr_waveAt hrun hhalt harmed hperiod hwidth, if_pos rfl,
    hrestart, reload_eq_self hequal]

end Sys2Proof.Machine

/-! # Proofs of the family 41_command_sequencer: the stack, the gate and the interrupt events -/

namespace Sys2Proof.Machine

/-! ## The valid entries of the stack (R31, R140 to R142)

Below the size the stack is a list, oldest entry first: a push with room appends to it, and the current command is its
last element. -/

/-- The valid entries, oldest first (R31). -/
def State.entries (s : State) : List Command := s.stk.toList.take s.sz.val

@[simp] theorem length_entries (s : State) : s.entries.length = s.sz.val := by
  simp [State.entries, Nat.le_of_lt_succ s.sz.isLt]

theorem entries_of_empty {s : State} (h : s.sz.val = 0) : s.entries = [] := by
  simp [State.entries, h]

theorem getElem?_entries {s : State} {k : Nat} (hk : k < s.sz.val) :
    s.entries[k]? = some (s.stk[k]'(by omega)) := by
  have hcap : k < 8 := by omega
  simp [State.entries, hk, hcap]

theorem entries_push_of_room {s : State} (c : Command) (h : s.sz.val < 8) :
    (push c s).entries = s.entries ++ [c] := by
  rw [State.entries, push_sz_of_room c h, push_stk_of_room c h, Vector.toList_set, List.take_add_one,
    List.take_set_of_le le_rfl]
  simp [State.entries, h]

/-- Pushes that all fit append their commands, and write nothing but the stack and its size (R140). -/
theorem runTrace_pushes {cs : List Command} {s : State} (h : s.sz.val + cs.length ≤ 8) :
    ∃ t, runTrace (cs.map .push) s = .next t ∧ t.entries = s.entries ++ cs ∧ t = { s with stk := t.stk, sz := t.sz } := by
  induction cs generalizing s with
  | nil => exact ⟨s, rfl, by simp, rfl⟩
  | cons c cs ih =>
    rw [List.length_cons] at h
    have hroom : s.sz.val < 8 := by omega
    have hsz := push_sz_of_room c hroom
    obtain ⟨t, hrun, hentries, hframe⟩ := ih (s := push c s) (by omega)
    refine ⟨t, hrun, by simp [hentries, entries_push_of_room c hroom], ?_⟩
    rw [push_eq_of_room c hroom] at hframe
    exact hframe

/-- The state after `j` pops: the size is less by `j`, but not below 0 (R141). -/
def afterPops (j : Nat) (s : State) : State := { s with sz := ⟨s.sz.val - j, by omega⟩ }

@[simp] theorem afterPops_sz_val (j : Nat) (s : State) : (afterPops j s).sz.val = s.sz.val - j := rfl

theorem runTrace_pops (j : Nat) (s : State) : runTrace (repeated .pop j) s = .next (afterPops j s) := by
  induction j generalizing s with
  | zero => rfl
  | succ j ih =>
    have hsize : s.sz.val - 1 - j = s.sz.val - (j + 1) := by omega
    refine (ih (pop s)).trans ?_
    simp [afterPops, pop, hsize]

/-- Pops bring the entries back newest first (R142). -/
theorem current_afterPops {s : State} {j : Nat} (hj : j < s.sz.val) :
    some (afterPops j s).current = s.entries.reverse[j]? := by
  have hindex : s.sz.val - j - 1 = s.sz.val - 1 - j := by omega
  rw [List.getElem?_reverse (by simpa using hj), length_entries, getElem?_entries (by omega),
    current_of_nonempty (by rw [afterPops_sz_val]; omega)]
  simp [afterPops, hindex]

/-- Settles O22: the commands are the newest entries after the pushes, so the pops bring them back. -/
theorem pushedCommandsComeBackNewestFirst : Obligations.PushedCommandsComeBackNewestFirst := by
  intro s cs j hfits hj
  obtain ⟨t, hpushes, hentries, hframe⟩ := runTrace_pushes hfits
  have hsz : t.sz.val = s.sz.val + cs.length := by simpa using congrArg List.length hentries
  refine ⟨afterPops j t, ?_, ?_, ?_, ?_⟩
  · rw [runTrace_append, hpushes]
    exact runTrace_pops j t
  · rw [afterPops_sz_val]
    omega
  · rw [current_afterPops (by omega), hentries, List.reverse_append, List.getElem?_append_left (by simpa using hj)]
  · rw [hframe]
    rfl

/-- Settles O23: the eight commands are all the entries there are, and a push on a full stack is only noted. -/
theorem ninthPushHasNoEffect : Obligations.NinthPushHasNoEffect := by
  intro s cs d hempty hlength
  obtain ⟨t, hpushes, hentries, -⟩ := runTrace_pushes (cs := cs) (s := s) (by omega)
  rw [entries_of_empty hempty, List.nil_append] at hentries
  have hfull : t.sz.val = 8 := by rw [← length_entries, hentries, hlength]
  refine ⟨t, push d t, hpushes, rfl, hfull, fun k => ?_, ?_⟩
  · rw [← hentries, getElem?_entries (by omega)]
    rfl
  · rw [push_of_full d hfull]
    rfl

/-- Settles O19: with room the entry above the top and the size are written, on a full stack the drop is noted. -/
theorem pushStoresOrDrops : Obligations.PushStoresOrDrops := by
  refine fun s c => ⟨push c s, rfl, push_frame c s, fun hroom => ?_, fun hfull => ?_⟩
  · refine ⟨push_sz_of_room c hroom, push_current_of_room c hroom, push_history_of_room c hroom, fun k => ?_⟩
    split
    · simp [push_stk_of_room c hroom, *]
    · exact push_getElem_ne c s ‹_›
  · rw [push_of_full c hfull]
    exact ⟨rfl, rfl, rfl⟩

/-- Settles O20: only the size moves, and the current command is read at the new size. -/
theorem popUncoversTheEntryBeneath : Obligations.PopUncoversTheEntryBeneath := by
  refine fun s => ⟨pop s, rfl, rfl, fun hpos => ?_, fun hempty => ?_, fun hone => ?_, fun k hk => ?_⟩
  · rw [pop_sz_val]
    omega
  · have hsz : (pop s).sz = s.sz := Fin.ext (by rw [pop_sz_val, hempty])
    exact congrArg (fun n => ({ s with sz := n } : State)) hsz
  · exact current_of_empty (by rw [pop_sz_val]; omega)
  · have hindex : s.sz.val - 1 - 1 = k.val := by omega
    rw [current_of_nonempty (by rw [pop_sz_val]; omega)]
    simp [hindex]

/-! ## The gate and the input handlers (R143 to R150) -/

/-- Settles O21: the two answers of the gate, noted. -/
theorem gateAcceptsAfterGuard : Obligations.GateAcceptsAfterGuard := by
  intro s
  rw [exec_gateAccept, execGateAccept]
  split
  · rw [gateAccept_of_open ‹_›]
    rfl
  · rw [gateAccept_of_closed (by omega)]
    rfl

theorem onAcceptedEdge_of_run {s : State} (handler : State → State) (hrun : s.sys = .run) :
    (.next (onAcceptedEdge s handler) : Exec) =
      if s.gateLast + 15 < s.now then .next (handler { s with gateLast := s.now }) else .next s := by
  split
  · rw [onAcceptedEdge_of_open handler hrun ‹_›]
  · rw [onAcceptedEdge_of_closed handler (by omega)]

theorem exec_encB_eq (a : Bool) (s : State) :
    exec (.encB a) s =
      .next (onAcceptedEdge s fun t => push (if a = t.cfg.encIncLevel then .increase else .decrease) t) := by
  simp only [exec_encB, execEncB, apply_ite push, ite_apply]

/-- The three inputs share one shape, and none of their handlers writes `gate_last` itself (R144). -/
theorem exec_edge {i : Instr} (hi : i = .btn ∨ (∃ a, i = .encB a) ∨ ∃ d, i = .sw d) :
    ∃ handler : State → State, (∀ s, exec i s = .next (onAcceptedEdge s handler)) ∧
      ∀ s, (handler s).gateLast = s.gateLast := by
  obtain rfl | ⟨a, rfl⟩ | ⟨d, rfl⟩ := hi
  · exact ⟨_, fun _ => rfl, push_gateLast _⟩
  · exact ⟨_, exec_encB_eq a, fun s => push_gateLast _ s⟩
  · cases d with
    | toOff => exact ⟨_, fun _ => rfl, fun s => push_gateLast _ { s with fast := !s.fast }⟩
    | toOn => exact ⟨_, fun _ => rfl, fun _ => rfl⟩

/-- Settles O15: the accepted edge leaves `gate_last` at its own time, which closes the gate to every input. -/
theorem oneGateThrottlesAllInputs : Obligations.OneGateThrottlesAllInputs := by
  intro s t u i j hi hj hrun hopen h hgate hnow
  obtain ⟨first, hfirst, hkeeps⟩ := exec_edge hi
  obtain ⟨second, hsecond, -⟩ := exec_edge hj
  rw [hfirst, onAcceptedEdge_of_open first hrun hopen] at h
  cases h
  have hclosed : u.now ≤ u.gateLast + 15 := by rwa [hgate, hkeeps]
  rw [hsecond, onAcceptedEdge_of_closed second hclosed]

/-- Settles O10: the event's own two cases. -/
theorem tickCountsOrFaults : Obligations.TickCountsOrFaults := fun _ hrun => if_pos hrun

/-- Settles O11: the shape of an input handler, with one push for either level. -/
theorem encoderEdgePushesByLevel : Obligations.EncoderEdgePushesByLevel :=
  fun s a hrun => (exec_encB_eq a s).trans (onAcceptedEdge_of_run _ hrun)

/-- Settles O13: the shape of an input handler, direction by direction. -/
theorem switchEdgeFlipsFast : Obligations.SwitchEdgeFlipsFast := by
  intro s d hrun
  cases d with
  | toOff => exact onAcceptedEdge_of_run _ hrun
  | toOn => exact onAcceptedEdge_of_run _ hrun

/-- Settles O12: an accepted edge is a push after the refresh of the gate, on a stack that has room or is full. -/
theorem buttonPushesToggleOutput : Obligations.ButtonPushesToggleOutput := by
  refine fun s => ⟨onAcceptedEdge s (push .toggleOutput), rfl, ?_, fun hrun hopen hroom => ?_,
    fun hrun hopen hfull => ?_, fun hignored => ?_⟩
  · obtain ⟨-, -, heq⟩ | heq := onAcceptedEdge_cases s (push .toggleOutput)
    · rw [heq, push_frame]
    · rw [heq]
  · rw [onAcceptedEdge_of_open _ hrun hopen]
    exact ⟨push_gateLast _ _, push_sz_of_room _ hroom, push_current_of_room _ hroom,
      fun _ => push_getElem_ne _ { s with gateLast := s.now }⟩
  · rw [onAcceptedEdge_of_open _ hrun hopen, push_of_full (s := { s with gateLast := s.now }) _ hfull]
    exact ⟨rfl, rfl, rfl⟩
  · obtain hstopped | hclosed := hignored
    · exact onAcceptedEdge_of_not_run _ hstopped
    · exact onAcceptedEdge_of_closed _ hclosed

/-- Settles O14: the meaning is the state itself, and the word is ENC_A's. -/
theorem encoderPhaseAHasNoEffect : Obligations.EncoderPhaseAHasNoEffect :=
  ⟨fun _ => rfl, fun _ _ hrun htrace =>
    step_of_turn (nextTurn_of_word hrun htrace (decodeWord_encode (i := .encA) rfl))⟩

end Sys2Proof.Machine

/-! # Proofs of the family 42_main_dispatch: rpm_to_mhz, the phases, whole services, and the fixed pulse width -/

namespace Sys2Proof.Machine

/-! ## rpm_to_mhz (R178) -/

theorem clamp_le_clamp {v v' : Nat} (lo hi : Nat) (h : v ≤ v') : clamp v lo hi ≤ clamp v' lo hi :=
  max_le_max_left lo (min_le_min_right hi h)

/-- An engine speed that is clamped already converts to the same frequency (R176, R178). -/
theorem rpmToMhz_clampRpm (rpm : Rpm) : rpmToMhz (clampRpm rpm.toNat) = rpmToMhz rpm := by
  obtain ⟨hmin, hmax⟩ := clampRpm_range rpm.toNat
  rw [rpmToMhz, clamp_of_mem hmin hmax, clampRpm_toNat, rpmToMhz]

/-- Settles O32: the bounds are the values at the two ends of the clamp, and each part of the formula is monotone. -/
theorem rpmToMhzIsBoundedAndMonotone : Obligations.RpmToMhzIsBoundedAndMonotone := by
  refine ⟨fun s rpm => ⟨rpmToMhz rpm, rfl, rpmToMhz_toNat rpm, rpmToMhz_between rpm⟩, fun r r' hle => ?_⟩
  rw [rpmToMhz_toNat, rpmToMhz_toNat]
  exact Nat.div_le_div_right (Nat.mul_le_mul_right _ (clamp_le_clamp _ _ hle))

/-! ## A MAIN step, by its phase (R170, R171) -/

theorem exec_main_eq_runPhase {s : State} (hrun : s.sys = .run) : exec .main s = runPhase s :=
  whenRunning_run _ hrun

/-- The phase is written out in the state, so that the phase's action is a computation. -/
theorem runPhase_of_ml {s : State} {ml : Phase} (hml : s.ml = ml) : runPhase s = runPhase { s with ml := ml } := by
  subst hml
  rfl

theorem inService_of_fetch {s : State} (hml : s.ml = .fetch) : s.inService = s.current := by
  simp [State.inService, hml, Phase.command]

theorem inService_of_command {s : State} {c : Command} (h : s.ml.command = some c) : s.inService = c := by
  simp [State.inService, h]

theorem exec_main_of_fetch {s : State} (hrun : s.sys = .run) (hml : s.ml = .fetch) :
    exec .main s = .next { s with ml := firstPhase s.current } := by
  rw [exec_main_eq_runPhase hrun, runPhase, hml]
  rfl

/-- Settles O33: the six first phases, command by command. -/
theorem fetchSelectsTheFirstPhase : Obligations.FetchSelectsTheFirstPhase := by
  intro s hrun hml
  rw [exec_main_of_fetch hrun hml]
  cases s.current <;> rfl

/-- Settles O34: under the invariant F2 and W1 have their channel, and every phase names its successor. -/
theorem mainAlwaysTakesItsPhase : Obligations.MainAlwaysTakesItsPhase := by
  intro s hinv hrun hml
  obtain ⟨t, hphase⟩ := runPhase_answers hinv hrun
  refine ⟨t, (exec_main_eq_runPhase hrun).trans hphase, (runPhase_ml hphase hml).trans ?_⟩
  cases s.ml <;> rfl

/-- Settles O36: the command's meaning is MAIN's, behind the test of what is in service. -/
theorem commandStepIsTheMainStep : Obligations.CommandStepIsTheMainStep := by
  intro s c hrun
  rw [exec_command, serveCommand, whenRunning_run _ hrun, exec_main_eq_runPhase hrun]

theorem exec_of_inService {s : State} {c : Command} (hrun : s.sys = .run) (h : s.inService = c) :
    exec c.instr s = exec .main s := by
  rw [commandStepIsTheMainStep s c hrun, if_pos h]

/-- A command's step at FETCH (R171). -/
theorem exec_at_fetch {s : State} {c : Command} (hrun : s.sys = .run) (hml : s.ml = .fetch) (hcur : s.current = c) :
    exec c.instr s = .next { s with ml := firstPhase c } := by
  rw [exec_of_inService hrun ((inService_of_fetch hml).trans hcur), exec_main_of_fetch hrun hml, hcur]

/-- A command's step in a phase of its service. -/
theorem exec_at_phase {s : State} {c : Command} {ml : Phase} (hrun : s.sys = .run) (hml : s.ml = ml)
    (hc : ml.command = some c) : exec c.instr s = runPhase { s with ml := ml } := by
  rw [exec_of_inService hrun (inService_of_command (hml ▸ hc)), exec_main_eq_runPhase hrun, runPhase_of_ml hml]

/-- Settles O37: FETCH of the empty stack writes the phase that `ml` holds. -/
theorem emptyStackIdles : Obligations.EmptyStackIdles := by
  intro s n hrun hml hempty
  have hcur := current_of_empty hempty
  have hmain : exec .main s = .next s := by rw [exec_main_of_fetch hrun hml, hcur, firstPhase, ← hml]
  have hnone : exec .cmdNone s = .next s := (exec_of_inService hrun ((inService_of_fetch hml).trans hcur)).trans hmain
  refine ⟨?_, hnone, (serviceWithin_succ hmain 6).trans (if_pos hml)⟩
  induction n with
  | zero => rfl
  | succ n ih =>
    rw [repeated, List.replicate_succ, runTrace, hmain]
    exact ih

/-! ## The phases of each command (R173 to R177)

Where the phase is written out in the state, all phases but T2, T5, F2, F3 and W1 compute to the next state they
name. -/

/-- Settles O38: each phase computes. -/
theorem increasePhases : Obligations.IncreasePhases := by
  intro s hrun
  have at_phase {ml : Phase} := exec_at_phase (s := s) (c := .increase) (ml := ml) hrun
  exact ⟨exec_at_fetch (c := .increase) hrun,
    fun hml => at_phase hml rfl, fun hml => at_phase hml rfl, fun hml => at_phase hml rfl⟩

/-- Settles O39: each phase computes. -/
theorem decreasePhases : Obligations.DecreasePhases := by
  intro s hrun
  have at_phase {ml : Phase} := exec_at_phase (s := s) (c := .decrease) (ml := ml) hrun
  exact ⟨exec_at_fetch (c := .decrease) hrun,
    fun hml => at_phase hml rfl, fun hml => at_phase hml rfl, fun hml => at_phase hml rfl⟩

/-- T2 and F3: `enable(out_en)` (R111). -/
theorem enable_with_ml (on : Bool) (s : State) (ml : Phase) :
    { enable on s with ml := ml } = { s with ml := ml, halt := !on, out := if on then s.out else .inactive } := by
  cases on <;> rfl

theorem runPhase_of_t2 {s : State} (hml : s.ml = .t2) :
    runPhase s = .next { s with ml := .t3, halt := !s.outEn, out := if s.outEn then s.out else .inactive } := by
  rw [runPhase, hml, ← enable_with_ml]
  rfl

theorem runPhase_of_f3 {s : State} (hml : s.ml = .f3) :
    runPhase s = .next { s with ml := .f4, halt := !s.outEn, out := if s.outEn then s.out else .inactive } := by
  rw [runPhase, hml, ← enable_with_ml]
  rfl

/-- T5: a push does not read the phase. -/
theorem push_with_ml (c : Command) (s : State) (ml : Phase) :
    push c { s with ml := ml } = { push c s with ml := ml } := by
  unfold push
  split <;> rfl

/-- Settles O40: T2 by the flag that it passes to `enable`, T5 by what a push reads, the other phases compute. -/
theorem toggleOutputPhases : Obligations.ToggleOutputPhases := by
  intro s hrun
  have at_phase {ml : Phase} := exec_at_phase (s := s) (c := .toggleOutput) (ml := ml) hrun
  refine ⟨exec_at_fetch (c := .toggleOutput) hrun, fun hml => at_phase hml rfl,
    fun hml hon => (at_phase hml rfl).trans ?_, fun hml hoff => (at_phase hml rfl).trans ?_,
    fun hml => at_phase hml rfl, fun hml => at_phase hml rfl, fun hml => (at_phase hml rfl).trans ?_⟩
  · simp [runPhase_of_t2, hon]
  · simp [runPhase_of_t2, hoff]
  · rw [runPhase, phaseT5, push_with_ml]

/-! ### F2 and W1: the operation with its result dropped (R176, R177) -/

section Updates

variable {s : State} {period width : Nat}

theorem phaseF2_of_no_period (harmed : s.ch.armed = true)
    (hperiod : periodTicksOf s.cfg s.cfg.srcClockHz (rpmToMhz s.cmdRpm) = none) :
    phaseF2 s = .next { s with ml := .f3 } := by
  rw [phaseF2, callUpdateFrequency_of_no_period (handleOk_iff.2 ⟨harmed, rfl⟩) hperiod, andThen]

theorem phaseF2_of_period (harmed : s.ch.armed = true)
    (hperiod : periodTicksOf s.cfg s.cfg.srcClockHz (rpmToMhz s.cmdRpm) = some period)
    (hwidth : s.matchOf (s.ch.pslot + 1) = some width) :
    phaseF2 s =
      if period ≤ width then .next { s with ml := .f3 }
      else .next { s with
        ml := .f3, halt := false, out := .inactive, slots := s.slots.set s.ch.pslot ⟨period, period⟩ } := by
  rw [phaseF2, callUpdateFrequency_of_period (handleOk_iff.2 ⟨harmed, rfl⟩) hperiod hwidth]
  split <;> rfl

theorem phaseW1_of_no_pulse (harmed : s.ch.armed = true)
    (hwidth : pulseTicksOf s.cfg s.cfg.srcClockHz pulseWidthUs = none) :
    phaseW1 s = .next { s with ml := .w2 } := by
  rw [phaseW1, callUpdatePulseWidth_of_no_pulse (handleOk_iff.2 ⟨harmed, rfl⟩) hwidth, andThen]

theorem phaseW1_of_pulse (harmed : s.ch.armed = true)
    (hwidth : pulseTicksOf s.cfg s.cfg.srcClockHz pulseWidthUs = some width)
    (hperiod : s.matchOf s.ch.pslot = some period) (hslot : s.ch.pslot + 1 < s.slots.length) :
    phaseW1 s =
      if period ≤ width then .next { s with ml := .w2 }
      else .next { s with
        ml := .w2, halt := false, out := .inactive, slots := s.slots.set (s.ch.pslot + 1) ⟨width, width⟩ } := by
  rw [phaseW1, callUpdatePulseWidth_of_pulse (handleOk_iff.2 ⟨harmed, rfl⟩) hwidth hperiod hslot]
  split <;> rfl

end Updates

/-- Settles O41: F2 by what `update_frequency` answers, F3 by the flag that it passes to `enable`, the other phases
compute. -/
theorem applyFrequencyPhases : Obligations.ApplyFrequencyPhases := by
  intro s hrun
  have at_phase {ml : Phase} := exec_at_phase (s := s) (c := .applyFrequency) (ml := ml) hrun
  refine ⟨exec_at_fetch (c := .applyFrequency) hrun, fun hml => at_phase hml rfl,
    fun period width hml harmed hperiod hwidth => (at_phase hml rfl).trans ?_,
    fun hml harmed hperiod => (at_phase hml rfl).trans ?_,
    fun hml hon => (at_phase hml rfl).trans ?_, fun hml hoff => (at_phase hml rfl).trans ?_,
    fun hml => at_phase hml rfl, fun hml => at_phase hml rfl, fun hml => at_phase hml rfl⟩
  · exact phaseF2_of_period (s := { s with ml := .f2 }) harmed hperiod hwidth
  · exact phaseF2_of_no_period (s := { s with ml := .f2 }) harmed hperiod
  · simp [runPhase_of_f3, hon]
  · simp [runPhase_of_f3, hoff]

/-- Settles O42: W1 by what `update_pulse_width` answers, W2 computes. -/
theorem applyPulseWidthPhases : Obligations.ApplyPulseWidthPhases := by
  intro s hrun
  have at_phase {ml : Phase} := exec_at_phase (s := s) (c := .applyPulseWidth) (ml := ml) hrun
  refine ⟨exec_at_fetch (c := .applyPulseWidth) hrun,
    fun period width hml harmed hwidth hperiod hslot => (at_phase hml rfl).trans ?_,
    fun hml harmed hwidth => (at_phase hml rfl).trans ?_, fun hml => at_phase hml rfl⟩
  · exact phaseW1_of_pulse (s := { s with ml := .w1 }) harmed hwidth hperiod hslot
  · exact phaseW1_of_no_pulse (s := { s with ml := .w1 }) harmed hwidth

/-! ## Whole services (R89, R182)

With no other agent's step in between, MAIN steps are phases, and a service from FETCH has as many as its command's
first phase leaves, plus the one at FETCH. -/

/-- Phases of the main loop in a row, with no other agent's step in between. -/
def runPhases : Nat → State → Exec
  | 0, s => .next s
  | n + 1, s => thenStep (runPhase s) (runPhases n)

theorem runPhases_succ {n : Nat} {s t : State} (h : runPhase s = .next t) : runPhases (n + 1) s = runPhases n t := by
  rw [runPhases, h, thenStep]

/-- MAIN steps in RUN are phases, since no phase writes `sys`. -/
theorem runTrace_main_eq_runPhases (n : Nat) {s : State} (hrun : s.sys = .run) :
    runTrace (repeated .main n) s = runPhases n s := by
  induction n generalizing s with
  | zero => rfl
  | succ n ih =>
    rw [repeated, List.replicate_succ, runTrace, exec_main_eq_runPhase hrun, runPhases]
    cases hphase : runPhase s with
    | next t =>
      obtain ⟨hsys, -⟩ := noInstructionWritesSysOrConfiguration s t .main
        ((exec_main_eq_runPhase hrun).trans hphase)
      exact ih (hsys.trans hrun)
    | fault | refused => rfl

/-- A service under way is the MAIN steps that are left of it, whether they answer a next state or not. -/
theorem serviceWithin_eq_runTrace {n : Nat} {s : State} (hml : s.ml ≠ .fetch) (hn : s.ml.stepsLeft ≤ n) :
    serviceWithin n s = runTrace (repeated .main s.ml.stepsLeft) s := by
  induction n generalizing s with
  | zero =>
    have hsteps := stepsLeft_successor hml
    omega
  | succ n ih =>
    have hsteps := stepsLeft_successor hml
    rw [← hsteps, repeated, List.replicate_succ, runTrace, serviceWithin]
    cases hexec : exec .main s with
    | next t =>
      obtain ⟨-, hphase⟩ := whenRunning_next hexec
      have hnext := runPhase_ml hphase hml
      rw [← hnext] at hsteps ⊢
      simp only [thenStep]
      split
      · rename_i hend
        rw [hend]
        rfl
      · exact ih ‹_› (by omega)
    | fault | refused => rfl

/-- A service from FETCH, by the phases of its command. -/
theorem service_of_runPhases {c : Command} {s t : State} (hrun : s.sys = .run) (hml : s.ml = .fetch)
    (hcur : s.current = c) (hc : firstPhase c ≠ .fetch)
    (h : runPhases (firstPhase c).stepsLeft { s with ml := firstPhase c } = .next t) :
    service s = .next t ∧ runTrace (repeated .main ((firstPhase c).stepsLeft + 1)) s = .next t := by
  have hfetch : exec .main s = .next { s with ml := firstPhase c } := hcur ▸ exec_main_of_fetch hrun hml
  have hrest : runTrace (repeated .main (firstPhase c).stepsLeft) { s with ml := firstPhase c } = .next t :=
    (runTrace_main_eq_runPhases (s := { s with ml := firstPhase c }) _ hrun).trans h
  constructor
  · rw [service, longestService, serviceWithin_succ hfetch, if_neg hc]
    exact (serviceWithin_eq_runTrace hc (stepsLeft_le_six _)).trans hrest
  · rw [repeated, List.replicate_succ, runTrace, hfetch]
    exact hrest

theorem sz_pos_of_current {s : State} {c : Command} (hcur : s.current = c) (hc : c ≠ .none) : 0 < s.sz.val := by
  rcases Nat.eq_zero_or_pos s.sz.val with hzero | hpos
  · exact absurd (hcur.symm.trans (current_of_empty hzero)) hc
  · exact hpos

theorem pop_sz_add_one {s : State} (h : 0 < s.sz.val) : (pop s).sz.val + 1 = s.sz.val := Nat.sub_add_cancel h

/-- Settles O43: four phases that compute. -/
theorem increaseService : Obligations.IncreaseService := by
  intro s hrun hml hcur
  obtain ⟨hservice, htrace⟩ := service_of_runPhases (t := phaseI3 (phaseI2 (phaseI1 s))) hrun hml hcur (by decide) rfl
  refine ⟨_, hservice, htrace, pop_sz_add_one (sz_pos_of_current hcur (by decide)), ?_⟩
  rw [hml]
  rfl

/-- D1 (R174): for a speed in range the bound below is the whole clamp. -/
theorem phaseD1_cmdRpm {s : State} (h : s.cmdRpm.toNat ≤ rpmMax) :
    (phaseD1 s).cmdRpm = clampRpm (s.cmdRpm.toNat - s.stepSize) := by
  have hclamp : (if s.cmdRpm.toNat < rpmMin + s.stepSize then rpmMin else s.cmdRpm.toNat - s.stepSize) =
      clamp (s.cmdRpm.toNat - s.stepSize) rpmMin rpmMax := by
    rw [clamp]
    split <;> omega
  exact congrArg (BitVec.ofNat 16) hclamp

/-- Settles O44: four phases that compute; D1's own bound is the clamp. -/
theorem decreaseService : Obligations.DecreaseService := by
  intro s hrun hml hcur hmax
  obtain ⟨hservice, htrace⟩ := service_of_runPhases (t := phaseD3 (phaseD2 (phaseD1 s))) hrun hml hcur (by decide) rfl
  refine ⟨_, hservice, htrace, pop_sz_add_one (sz_pos_of_current hcur (by decide)), ?_⟩
  have hspeed : BitVec.ofNat 16 (clamp (s.cmdRpm.toNat - if s.fast then 10 else 1) 2500 9000) = (phaseD1 s).cmdRpm :=
    (phaseD1_cmdRpm hmax).symm
  rw [hml, hspeed]
  rfl

/-- The entry that a pop removes is the one that the push after it writes again (R140, R141). -/
theorem push_pop_of_nonempty {s : State} (c : Command) (h : 0 < s.sz.val) :
    push c (pop s) = { s with stk := s.stk.set (s.sz.val - 1) c } := by
  have hroom : (pop s).sz.val < 8 := by
    rw [pop_sz_val]
    omega
  have hsz : (push c (pop s)).sz = s.sz := Fin.ext ((push_sz_of_room c hroom).trans (pop_sz_add_one h))
  rw [push_eq_of_room c hroom, hsz]
  rfl

/-- T4 and T5 (R175). -/
theorem phaseT5_phaseT4 {s : State} (h : 0 < s.sz.val) :
    phaseT5 (phaseT4 s) = { s with ml := .fetch, stk := s.stk.set (s.sz.val - 1) .applyFrequency } := by
  rw [phaseT5, phaseT4, push_with_ml, push_pop_of_nonempty _ h]

/-- The phases of ToggleOutput after T2. -/
theorem runPhases_after_t2 {s : State} (h : 0 < s.sz.val) :
    ∃ history, runPhases 3 { s with ml := .t3 } = .next { s with
      ml := .fetch, stk := s.stk.set (s.sz.val - 1) .applyFrequency, history := history } :=
  ⟨_, congrArg Host.Outcome.next (phaseT5_phaseT4 (s := phaseT3 s) h)⟩

/-- The phases of ToggleOutput: T2 takes the flag as T1 left it. -/
theorem runPhases_toggleOutput {s : State} (h : 0 < s.sz.val) :
    ∃ history, runPhases 5 { s with ml := .t1 } = .next { s with
      ml := .fetch, outEn := !s.outEn, halt := !!s.outEn, out := if !s.outEn then s.out else .inactive,
      stk := s.stk.set (s.sz.val - 1) .applyFrequency, history := history } := by
  obtain ⟨history, hrest⟩ := runPhases_after_t2
    (s := { s with outEn := !s.outEn, halt := !!s.outEn, out := if !s.outEn then s.out else .inactive }) h
  exact ⟨history, (runPhases_succ rfl).trans ((runPhases_succ (runPhase_of_t2 rfl)).trans hrest)⟩

/-- Settles O45: the entry that the service leaves is the one in its own place. -/
theorem toggleOutputService : Obligations.ToggleOutputService := by
  intro s hrun hml hcur
  have hpos := sz_pos_of_current hcur (by decide)
  obtain ⟨history, hphases⟩ := runPhases_toggleOutput hpos
  obtain ⟨hservice, htrace⟩ := service_of_runPhases hrun hml hcur (by decide) hphases
  refine ⟨_, hservice, htrace, ?_, fun k hk => ?_, ?_⟩
  · exact (current_of_nonempty (by exact hpos)).trans (Vector.getElem_set_self _)
  · exact Vector.getElem_set_ne (by omega) _ (by omega)
  · rw [hml]
    cases s.outEn <;> rfl

/-- F2 writes the period slot, `HALT` and `OUT` alone, and these by what `update_frequency` answers (R108, R176). -/
theorem phaseF2_answers {s : State} {width : Nat} (harmed : s.ch.armed = true)
    (hwidth : s.matchOf (s.ch.pslot + 1) = some width) :
    ∃ halt out slots, phaseF2 s = .next { s with ml := .f3, halt := halt, out := out, slots := slots } ∧
      (∀ period, periodTicksOf s.cfg s.cfg.srcClockHz (rpmToMhz s.cmdRpm) = some period → width < period →
        slots = s.slots.set s.ch.pslot ⟨period, period⟩ ∧ out = .inactive) ∧
      ((∀ period, periodTicksOf s.cfg s.cfg.srcClockHz (rpmToMhz s.cmdRpm) = some period → period ≤ width) →
        slots = s.slots ∧ out = s.out) := by
  cases hperiod : periodTicksOf s.cfg s.cfg.srcClockHz (rpmToMhz s.cmdRpm) with
  | none => exact ⟨_, _, _, phaseF2_of_no_period harmed hperiod, nofun, fun _ => ⟨rfl, rfl⟩⟩
  | some period =>
    have hanswer := phaseF2_of_period harmed hperiod hwidth
    split at hanswer
    · refine ⟨_, _, _, hanswer, ?_, fun _ => ⟨rfl, rfl⟩⟩
      rintro _ ⟨rfl⟩ hlt
      omega
    · refine ⟨_, _, _, hanswer, ?_, fun hrejected => ?_⟩
      · rintro _ ⟨rfl⟩ -
        exact ⟨rfl, rfl⟩
      · have hle := hrejected period rfl
        omega

/-- The phases of ApplyFrequency after F2: what F2 did to `HALT` is written over by F3 (R252). -/
theorem runPhases_after_f2 (s : State) :
    ∃ history, runPhases 4 { s with ml := .f3 } = .next { s with
      ml := .fetch, appRpm := s.cmdRpm, halt := !s.outEn, out := if s.outEn then s.out else .inactive,
      sz := (pop s).sz, history := history } :=
  ⟨_, runPhases_succ (runPhase_of_f3 rfl)⟩

/-- Settles O46: F2 decides the slots, the phases after it the rest. -/
theorem applyFrequencyService : Obligations.ApplyFrequencyService := by
  intro s width hrun hml hcur harmed hwidth
  obtain ⟨halt, out, slots, hF2, haccepted, hrejected⟩ := phaseF2_answers (s := phaseF1 s) harmed hwidth
  have hspeed : rpmToMhz (phaseF1 s).cmdRpm = rpmToMhz s.cmdRpm := rpmToMhz_clampRpm s.cmdRpm
  rw [hspeed] at haccepted hrejected
  obtain ⟨history, hrest⟩ := runPhases_after_f2 { phaseF1 s with halt := halt, out := out, slots := slots }
  obtain ⟨hservice, htrace⟩ := service_of_runPhases hrun hml hcur (by decide)
    ((runPhases_succ rfl).trans ((runPhases_succ (s := phaseF1 s) hF2).trans hrest))
  refine ⟨_, hservice, htrace, pop_sz_add_one (sz_pos_of_current hcur (by decide)), clampRpm_toNat _,
    decide_eq_true rfl, rfl, ?_, fun period hperiod hlt => ?_, fun hno => ?_⟩
  · rw [hml]
    rfl
  · obtain ⟨hslots, hout⟩ := haccepted period hperiod hlt
    exact ⟨hslots, by simp [hout]⟩
  · obtain ⟨hslots, hout⟩ := hrejected hno
    exact ⟨hslots, by rw [hout]; rfl⟩

/-! ## The fixed pulse width (R6, R176, R177) -/

/-- The period slot of an armed channel is not its pulse slot, and W1 writes the pulse of the fixed width. -/
theorem runPhase_keeps_bootWidth {s t : State} (hinv : s.Inv) (hrun : s.sys = .run)
    (hwidth : s.matchOf s.ch.wslot = s.cfg.bootWidth) (h : runPhase s = .next t) :
    t.matchOf s.ch.wslot = s.cfg.bootWidth := by
  obtain ⟨hwslot, -, -, period, -, hperiod, -⟩ := hinv.armed_channel (hinv.run_armed hrun)
  obtain ⟨-, -, -, -, hslots, -⟩ := (runPhase_effect h).frame
  by_cases hml : s.ml ∈ [.f2, .w1]
  · simp only [List.mem_cons, List.not_mem_nil, or_false] at hml
    obtain hml | hml := hml
    · rw [runPhase, hml] at h
      obtain ⟨u, r, hcall, rfl⟩ := andThen_next h
      obtain ⟨-, -, ⟨rfl, -⟩ | ⟨v, w, -, -, -, -, rfl⟩⟩ := callUpdateFrequency_next hcall
      · exact hwidth
      · refine (matchOf_bracketWrite _ _ _ (matchOf_lt hperiod)).trans ?_
        rw [if_neg (by omega), hwidth]
    · rw [runPhase, hml] at h
      obtain ⟨u, r, hcall, rfl⟩ := andThen_next h
      obtain ⟨-, -, ⟨rfl, -⟩ | ⟨v, w, hpulse, -, -, hslot, -, rfl⟩⟩ := callUpdatePulseWidth_next hcall
      · exact hwidth
      · refine (matchOf_bracketWrite _ _ _ hslot).trans ?_
        rw [if_pos hwslot]
        exact hpulse.symm
  · rw [matchOf_congr (hslots hml), hwidth]

/-- Settles O60: the handlers write no match register, the timer reloads equal ones, and MAIN writes the pulse slot in
W1 alone. -/
theorem eventsKeepTheFixedPulseWidth : Obligations.EventsKeepTheFixedPulseWidth := by
  intro s t i hinv hrun hwidth hevt h
  by_cases hmain : i = .main
  · subst hmain
    obtain ⟨-, hphase⟩ := whenRunning_next h
    obtain ⟨hframe, -⟩ := (runPhase_effect hphase).frame
    have hkept := runPhase_keeps_bootWidth hinv hrun hwidth hphase
    rw [hframe]
    rwa [hframe] at hkept
  · by_cases htmr : i = .tmr
    · subst htmr
      obtain ⟨hframe, hslots⟩ := timerTouchesTimerOnly s t h
      rw [hframe, hslots fun m hm => (hinv.slots_equal_fit m hm).1]
      exact hwidth
    · obtain ⟨hframe, -⟩ := handlersTouchSharedStateOnly s t i hevt hmain htmr h
      rw [hframe]
      exact hwidth

end Sys2Proof.Machine

/-! # Proofs of the family 60_exceptions: the events that always answer -/

namespace Sys2Proof.Machine

/-- TICK faults where `now` is the greatest value of its register, and there alone (R23, R146). -/
theorem execTick_answers {s : State} (h : s.Inv) (hrun : s.sys = .run) :
    (∃ t, execTick s = .next t) ∨ (s.now + 1 = 2 ^ s.cfg.tickW ∧ execTick s = .fault .tickWrap) := by
  have htick := tickCountsOrFaults s hrun
  split at htick
  · exact .inl ⟨_, htick⟩
  · have hnow := h.now_fits
    exact .inr ⟨by omega, htick⟩

/-- The timer reads both slots of its channel, which the invariant programs (R37, R39, R112). -/
theorem timerTick_answers {s : State} (h : s.Inv) (harmed : s.ch.armed = true) : ∃ t, timerTick s = .next t := by
  obtain ⟨-, -, width, period, hwidth, hperiod, -⟩ := h.armed_channel harmed
  rw [timerTick_of_armed harmed hperiod hwidth]
  split
  · exact ⟨_, rfl⟩
  · split
    · exact ⟨_, rfl⟩
    · exact ⟨_, rfl⟩

theorem execTmr_answers {s : State} (h : s.Inv) (hrun : s.sys = .run) : ∃ t, execTmr s = .next t := by
  cases hhalt : s.halt with
  | true => exact ⟨s, execTmr_of_halted hhalt⟩
  | false =>
    rw [execTmr_of_running hrun hhalt]
    exact timerTick_answers h (h.run_armed hrun)

/-- Settles O57: the input handlers answer in every state, TMR and MAIN by the armed channel, TICK below its maximum. -/
theorem eventsAreNeverRefused : Obligations.EventsAreNeverRefused := by
  intro s i hinv hrun hevt
  cases i with
  | tick => exact (execTick_answers hinv hrun).imp_right fun ⟨hnow, hfault⟩ => ⟨rfl, hnow, hfault⟩
  | encB | btn | sw | encA => exact .inl ⟨_, rfl⟩
  | tmr => exact .inl (execTmr_answers hinv hrun)
  | main => exact .inl ((runPhase_answers hinv hrun).imp fun _ => (exec_main_eq_runPhase hrun).trans)
  | _ => cases hevt

end Sys2Proof.Machine

/-! # Proofs of the family 70_reset_and_hazards: reset, boot, and the hazards of the counter and of the stack -/

namespace Sys2Proof.Machine

/-! ## Reset and boot (R230, R233) -/

/-- Settles O5: the head of the trace decides the turn before `sys` is looked at. -/
theorem assertedResetRestores : Obligations.AssertedResetRestores := by
  intro s rest htrace
  have hturn : nextTurn s = .reset (assertReset { s with trace := rest }) := by simp [nextTurn, htrace]
  rw [step, hturn]
  rfl

theorem step_of_unset {s : State} (hunset : s.sys = .unset) (hrst : ∀ rest, s.trace ≠ .rst :: rest) :
    step s = boot s := by
  have hturn : nextTurn s = .boot := by
    rcases htrace : s.trace with _ | ⟨_ | bytes, rest⟩
    · simp [nextTurn, htrace, hunset]
    · exact absurd htrace (hrst rest)
    · simp [nextTurn, htrace, hunset]
  simp [step, hturn]

theorem boot_of_error {s : State} {e : Err}
    (hsetup : callSetup pulseWidthUs s.cfg.srcClockHz s.cfg.setupFreqMhz s = .next (s, .err e)) :
    boot s = .next { s with sys := .halted e } := by
  simp [boot, hsetup, andThen]

theorem boot_of_slot {s t : State} {k : Nat}
    (hsetup : callSetup pulseWidthUs s.cfg.srcClockHz s.cfg.setupFreqMhz s = .next (t, .slot k)) :
    boot s = .next { t with sys := .run } := by
  simp [boot, hsetup, andThen]

/-- Settles O6: the accepted outcome of boot's `setup`. -/
theorem bootArmsTheChannel : Obligations.BootArmsTheChannel :=
  fun _ _ _ hunset hrst hhalt harmed hslots hperiod hwidth hlt hfree =>
    (step_of_unset hunset hrst).trans
      (boot_of_slot (callSetup_of_accepted hhalt harmed hperiod hwidth hlt hfree hslots))

/-- Settles O7: the two errors of boot's `setup`, in the order in which it looks for them. -/
theorem failedBootHalts : Obligations.FailedBootHalts := by
  intro s hunset hrst hhalt harmed
  rw [step_of_unset hunset hrst]
  exact ⟨fun hticks => boot_of_error (callSetup_of_no_ticks hhalt harmed hticks),
    fun _ _ hperiod hwidth hlt hfree =>
      boot_of_error (callSetup_of_no_slots hhalt harmed hperiod hwidth hlt hfree)⟩

/-! ## The counter above the period (R242) -/

/-- `n` counts from above the period lead to the period only after the wrap, `period` counts beyond it. -/
theorem count_mod_ne_period {count period modulus n : Nat} (habove : period < count) (hfits : count < modulus)
    (hn : n < modulus - count + period) : (count + n) % modulus ≠ period := by
  rcases Nat.lt_or_ge (count + n) modulus with hbefore | hwrapped
  · rw [Nat.mod_eq_of_lt hbefore]
    omega
  · rw [Nat.mod_eq_sub_mod hwrapped, Nat.mod_eq_of_lt (by omega)]
    omega

theorem count_mod_eq_period {count period modulus : Nat} (habove : period < count) (hfits : count < modulus) :
    (count + (modulus - count + period)) % modulus = period := by
  rw [show count + (modulus - count + period) = modulus + period by omega, Nat.add_mod_left,
    Nat.mod_eq_of_lt (by omega)]

section AbovePeriod

variable {s : State} {period width : Nat} (hrun : s.sys = .run) (hhalt : s.halt = false)
  (harmed : s.ch.armed = true) (hperiod : s.matchOf s.ch.pslot = some period)
  (hwidth : s.matchOf s.ch.wslot = some width)

include hrun hhalt harmed hperiod hwidth

theorem exec_tmr_at_count (count : Nat) : exec .tmr { s with count := count } =
    if count = period then .next (reload { s with out := .active, count := 0 })
    else if count = width then .next (advanceCount (forceInactive { s with count := count }))
    else .next (advanceCount { s with count := count }) :=
  (execTmr_of_running (s := { s with count := count }) hrun hhalt).trans
    (timerTick_of_armed (s := { s with count := count }) harmed hperiod hwidth)

/-- With the line inactive the end of a pulse writes nothing, so that below the rollover every tick only counts. -/
theorem exec_tmr_of_inactive (hout : s.out = .inactive) {count : Nat} (hcount : count ≠ period) :
    exec .tmr { s with count := count } = .next { s with count := (count + 1) % 2 ^ s.cfg.counterW } := by
  rw [exec_tmr_at_count hrun hhalt harmed hperiod hwidth, if_neg hcount]
  split
  · simp [advanceCount, forceInactive, ← hout]
  · rfl

theorem runTrace_tmr_above_period (hout : s.out = .inactive) (habove : period < s.count)
    (hfits : s.count < 2 ^ s.cfg.counterW) {n : Nat} (hn : n ≤ 2 ^ s.cfg.counterW - s.count + period) :
    runTrace (repeated .tmr n) s = .next { s with count := (s.count + n) % 2 ^ s.cfg.counterW } := by
  induction n with
  | zero =>
    rw [Nat.add_zero, Nat.mod_eq_of_lt hfits]
    rfl
  | succ n ih =>
    rw [runTrace_repeated_succ (ih (by omega)), exec_tmr_of_inactive hrun hhalt harmed hperiod hwidth hout
      (count_mod_ne_period habove hfits hn), Nat.mod_add_mod, Nat.add_assoc]

end AbovePeriod

/-- Settles O18: tick by tick up to the period match, where the next tick is the rollover; its reload changes
nothing. -/
theorem countAbovePeriodWrapsFirst : Obligations.CountAbovePeriodWrapsFirst := by
  intro s period width hrun hhalt harmed hperiod hwidth _ habove hfits hequal hout
  have hcounts (n : Nat) (hn : n ≤ 2 ^ s.cfg.counterW - s.count + period) :=
    runTrace_tmr_above_period hrun hhalt harmed hperiod hwidth hout habove hfits hn
  refine ⟨hcounts, ?_⟩
  rw [runTrace_repeated_succ (hcounts _ le_rfl), exec_tmr_at_count hrun hhalt harmed hperiod hwidth,
    if_pos (count_mod_eq_period habove hfits), reload_eq_self (by exact hequal)]

/-! ## A push just before the pop (R243) -/

/-- The four phases that end a service with a pop (R173, R174, R176, R177). -/
theorem exec_main_of_pop_phase {s : State} (hrun : s.sys = .run)
    (hml : s.ml = .i3 ∨ s.ml = .d3 ∨ s.ml = .f6 ∨ s.ml = .w2) :
    exec .main s = .next { pop s with ml := .fetch } := by
  rw [exec_main_eq_runPhase hrun, runPhase]
  obtain hml | hml | hml | hml := hml <;> rw [hml] <;> rfl

/-- A pop takes back the push before it: what was pushed stays above the top, as a stale entry (R140, R141). -/
theorem pop_push_of_room {s : State} (c : Command) (hroom : s.sz.val < 8) :
    pop (push c s) = { s with stk := s.stk.set s.sz.val c hroom } := by
  have hsz : (pop (push c s)).sz = s.sz :=
    Fin.ext (by rw [pop_sz_val, push_sz_of_room c hroom, Nat.add_sub_cancel])
  calc pop (push c s) = { push c s with sz := (pop (push c s)).sz } := rfl
    _ = { s with stk := s.stk.set s.sz.val c hroom } := by rw [hsz, push_eq_of_room c hroom]

/-- The current command is one of the valid entries (R29). -/
theorem current_eq_of_entries {s t : State} (hsz : t.sz = s.sz)
    (hentries : ∀ k : Fin 8, k.val < s.sz.val → t.stk[k] = s.stk[k]) : t.current = s.current := by
  rcases Nat.eq_zero_or_pos s.sz.val with hempty | hpos
  · rw [current_of_empty hempty, current_of_empty (hsz ▸ hempty)]
  · rw [current_of_nonempty hpos, current_of_nonempty (hsz ▸ hpos)]
    simpa [hsz] using hentries ⟨s.sz.val - 1, by omega⟩ (Nat.sub_lt hpos Nat.one_pos)

/-- Settles O48: the pop takes back the button's push, which lies above every valid entry. -/
theorem pushBetweenFetchAndPopIsLost : Obligations.PushBetweenFetchAndPopIsLost := by
  intro s t u hrun hml hopen hroom hbtn hmain
  rw [exec_btn, execBtn, onAcceptedEdge_of_open _ hrun hopen] at hbtn
  cases hbtn
  rw [exec_main_of_pop_phase (by rwa [push_sys]) (by rwa [push_ml]),
    pop_push_of_room (s := { s with gateLast := s.now }) _ hroom] at hmain
  cases hmain
  have hentries (k : Fin 8) (hk : k.val < s.sz.val) : (s.stk.set s.sz.val .toggleOutput hroom)[k] = s.stk[k] :=
    Vector.getElem_set_ne _ _ hk.ne'
  exact ⟨rfl, rfl, current_eq_of_entries rfl hentries, hentries⟩

end Sys2Proof.Machine
